-- ==== Sys2Proof/Word.lean ====
section
/-! DEFINITION. The byte, the finite names the spec uses (units, stages, commands, waves, filters) and the forms of
the numbers that events carry. No behaviour. -/

namespace Sys2Proof

/-- A byte is 8 bits, bit 0 the least significant (00_scope R15). -/
abbrev Byte := BitVec 8

/-- The three units (00_scope R3). -/
inductive UnitId where
  | cnt
  | gen
  | vam
deriving DecidableEq, Repr

/-- `CNT.stage`: where in a counter frame the next byte falls (10_state R23). -/
inductive CntStage where
  | awaitSentinel
  | awaitRange
  | collectingNibble (n : Fin 6)
deriving DecidableEq, Repr

/-- The wave variants, in the order of their codes 0 to 7 (30_encoding R113). -/
inductive Wave where
  | unknown
  | sine
  | triangle
  | sawtooth
  | square
  | bwVideo
  | serial
  | serialInverted
deriving DecidableEq, Repr

/-- The filter variants None, 100kHz, 8kHz, 600Hz, Unknown, in the order of their codes 0 to 4 (30_encoding R114). -/
inductive OutFilter where
  | none
  | f100kHz
  | f8kHz
  | f600Hz
  | unknown
deriving DecidableEq, Repr

/-- `VAM.cmd`: the command the last control byte selected, in the order of the codes 0 to 9 (10_state R25). -/
inductive VamCmd where
  | none
  | vRange
  | vZero
  | vGain
  | vSample
  | iRange2A
  | iRange600mA
  | iZero
  | iGain
  | iSample
deriving DecidableEq, Repr

/-- The two quantities the VAmeter measures; each has its own references, negative counter, range and scale. -/
inductive Quantity where
  | voltage
  | current
deriving DecidableEq, Repr

/-- AC/DC polarity classification (44_vameter_decoder R245). -/
inductive Polarity where
  | dcPositive
  | dcNegative
  | ac
deriving DecidableEq, Repr

/-- A calibration factor in thousandths: a four-digit number 0 to 9999 (10_state R42, 30_encoding R117). -/
abbrev CalFactor := Fin 10000

/-- What the external calibration-file reader hands over (45_vameter_calibration_host R270). -/
inductive CalSource where
  | unavailable
  | numbers (l : List CalFactor)
deriving DecidableEq, Repr

/-- The result of `counter_hertz` (40_counter_decoder R141). -/
inductive CounterValue where
  | hertz (x : ℚ)
  | divideByZero
  | noFormula
deriving DecidableEq, Repr

/-- Which entry of the OPEN scale tables `VAM_VSCALE`, `VAM_ISCALE` (00_scope R10) a sample is scaled with. -/
inductive ScaleEntry where
  | voltage (i : Fin 8)
  | current (i : Fin 4)
deriving DecidableEq, Repr

/-- The exact value of a sample event: the real number `sqrt radicand * scale`. The scale entry is an OPEN real, so the
value is kept as the rational under the root and the name of the entry (log 11). -/
structure SampleValue where
  radicand : ℚ
  scale : ScaleEntry
deriving DecidableEq, Repr

/-- An exact real number that a conversion hands to an event field (00_scope R16): a rational, or the magnitude of a
sample. -/
inductive ExactReal where
  | rational (x : ℚ)
  | magnitude (v : SampleValue)
deriving DecidableEq, Repr

/-- The number `num(arg)` that an event field carries. `num` is the parameter of 00_scope R10 and depends on its argument
alone, so the field is kept as that argument; what it reads as under a number format is `Machine.numValue` (log 9). -/
structure EventNum where
  arg : ExactReal
deriving DecidableEq, Repr

/-- `num(x)` of a rational. -/
abbrev num (x : ℚ) : EventNum := { arg := .rational x }

/-- `num(x)` of a sample's magnitude. -/
abbrev numMagnitude (v : SampleValue) : EventNum := { arg := .magnitude v }

/-- The result of `frequency_to_hertz` (42_generator_decoder R179). -/
inductive HertzOrPeriod where
  | hertz (x : EventNum)
  | period (x : EventNum)
  | absent
deriving DecidableEq, Repr

/-- The result of `vam_magnitude` (44_vameter_decoder R246). -/
inductive Magnitude where
  | value (x : SampleValue)
  | divideByZero
deriving DecidableEq, Repr

end Sys2Proof
end

