-- ==== Sys2Proof/Config.lean ====
section
/-! DEFINITION. The constants the spec fixes (00_scope R11, R12), in one place, its OPEN parameters (00_scope R10)
as opaque constants without a body (nothing can be proved of their values, log 12), and the decided defaults of the
parameters that the step and the reading of events take as arguments. -/

namespace Sys2Proof

/-! ### Constants of 00_scope R11 and R12 -/

/-- Counter start sentinel (R11). -/
abbrev Config.cntSentinel : Byte := 0xC9#8
/-- Generator state-packet sentinel (R11). -/
abbrev Config.genSentinel : Byte := 0xD2#8
/-- Generator acknowledge byte (R11). -/
abbrev Config.genAckByte : Byte := 0xD3#8
/-- First of the generator memory-loaded bytes `0x30..0x37` (R11). -/
abbrev Config.genMemFirst : Byte := 0x30#8
/-- Last of the generator memory-loaded bytes `0x30..0x37` (R11). -/
abbrev Config.genMemLast : Byte := 0x37#8
/-- `'?'`, the state request (R12). -/
abbrev Config.chQuestion : Byte := 0x3F#8
/-- `'A'` (R12). -/
abbrev Config.chA : Byte := 0x41#8
/-- `'B'` (R12). -/
abbrev Config.chB : Byte := 0x42#8
/-- `'C'` (R12). -/
abbrev Config.chC : Byte := 0x43#8
/-- `'D'` (R12). -/
abbrev Config.chD : Byte := 0x44#8
/-- `'F'` (R12). -/
abbrev Config.chF : Byte := 0x46#8
/-- `'H'` (R12). -/
abbrev Config.chH : Byte := 0x48#8
/-- `'O'` (R12). -/
abbrev Config.chO : Byte := 0x4F#8
/-- `'S'` (R12). -/
abbrev Config.chS : Byte := 0x53#8
/-- `'V'` (R12). -/
abbrev Config.chV : Byte := 0x56#8
/-- `'a'` (R12). -/
abbrev Config.chLowerA : Byte := 0x61#8
/-- `'b'` (R12). -/
abbrev Config.chLowerB : Byte := 0x62#8
/-- Counter trigger clamp: the level is held in `[-31, 31]` (R11). -/
abbrev Config.triggerMax : Int := 31
/-- Counter trigger bias (R11). -/
abbrev Config.triggerBias : Int := 32
/-- Numerator of the generator frequency scale, `2^24` (R11). -/
abbrev Config.freqNum : ℚ := 16777216
/-- Denominator of the generator frequency scale (R11). -/
abbrev Config.freqDen : ℚ := 20000000
/-- Generator serial period constant (R11). -/
abbrev Config.serialPeriod : ℚ := 200000000
/-- Generator volts constant `4.81 / 255`, with 4.81 the exact decimal (R11, 42_generator_decoder R180). -/
abbrev Config.voltsPerUnit : ℚ := (481 / 100) / 255
/-- Calibration default: factor 1.0 in thousandths (R11). -/
abbrev Config.calDefault : CalFactor := 1000

/-! ### OPEN parameters of 00_scope R10 -/

/-- `CNT_MODE_BYTE[m]`, m = 0, 1, 2: no constraint is known (R10, 91 N4). -/
opaque Config.cntModeByte : Fin 3 → Byte

/-- Which nine of the 128 control bytes are the `VAM_CC_*`, and in which order: the images of 0 to 8. Every choice of
nine distinct bytes with bit 7 set (R10, 92 D36) is the choice of some permutation, so this says exactly the
constraint the spec gives and no more (log 13). -/
opaque Config.vamCcChoice : Equiv.Perm (Fin 128)

/-- The `k`-th control code: a byte with bit 7 set. -/
def Config.vamCc (k : Fin 9) : Byte :=
  0x80#8 ||| BitVec.ofNat 8 (Config.vamCcChoice ⟨k.val, by omega⟩).val

/-- `VAM_CC_VRANGE` (R10). -/
def Config.vamCcVRange : Byte := Config.vamCc 0
/-- `VAM_CC_VZERO` (R10). -/
def Config.vamCcVZero : Byte := Config.vamCc 1
/-- `VAM_CC_VGAIN` (R10). -/
def Config.vamCcVGain : Byte := Config.vamCc 2
/-- `VAM_CC_VSAMPLE` (R10). -/
def Config.vamCcVSample : Byte := Config.vamCc 3
/-- `VAM_CC_IRANGE_2A` (R10). -/
def Config.vamCcIRange2A : Byte := Config.vamCc 4
/-- `VAM_CC_IRANGE_600MA` (R10). -/
def Config.vamCcIRange600mA : Byte := Config.vamCc 5
/-- `VAM_CC_IZERO` (R10). -/
def Config.vamCcIZero : Byte := Config.vamCc 6
/-- `VAM_CC_IGAIN` (R10). -/
def Config.vamCcIGain : Byte := Config.vamCc 7
/-- `VAM_CC_ISAMPLE` (R10). -/
def Config.vamCcISample : Byte := Config.vamCc 8

/-- `VAM_VSCALE[i]`: a finite real, nothing more is known (R10, 91 N10). DESIGN CHOICE (log 27): of either sign, as R10
and 92 D36 leave it, although 44_vameter_decoder R252 calls the sample value that it scales non-negative. -/
opaque Config.vamVScale : Fin 8 → ℝ

/-- `VAM_ISCALE[i]`: a finite real, nothing more is known (R10, 91 N10). DESIGN CHOICE (log 27): of either sign, like
`VAM_VSCALE`. -/
opaque Config.vamIScale : Fin 4 → ℝ

/-- `VAM_VLABEL[i]` (R10, 91 N11). -/
opaque Config.vamVLabel : Fin 8 → String

/-- `VAM_ILABEL[h][i]`; `h` false is 0 (2A), true is 1 (600mA) (R10, 91 N11). -/
opaque Config.vamILabel : Bool → Fin 4 → String

/-! ### Parameters of 00_scope R10 with a decided default: named arguments -/

/-- `NUM` with `num : real -> NUM`: a number format and its rounding map, which depends on its argument alone (00_scope
R10, R16, 93 U14). What an event field reads as takes the format as an argument (`Machine.numValue`). -/
structure NumberFormat where
  NUM : Type
  num : ℝ → NUM

/-- The decided default of `NUM` and `num`: the exact real and the identity (00_scope R10, 92 D7). -/
def Config.numberFormat : NumberFormat :=
  { NUM := ℝ, num := fun x => x }

/-- The decided default of the units present: all three (00_scope R10, 92 D1). The step takes them as an argument
(`Machine.stepWith`). -/
def Config.unitsPresent : List UnitId :=
  [.cnt, .gen, .vam]

/-! ### Free values -/

/-- What a register that 10_state R47 marks unspecified holds after a `Reset(U)` in mid-run: a FREE VALUE, one for each
unit, each of its resets (counted from 0) and each such register (numbered from 0). Nothing constrains it, and no rule
reads it (70_reset_and_hazards R320; log 8). -/
opaque Config.unspecifiedByte : UnitId → Nat → Nat → Byte

end Sys2Proof
end

