-- ==== Sys2Proof/Machine/Numbers.lean ====
section
/-! DEFINITION. The pure conversion functions between raw integers and physical numbers (00_scope R14), in exact
rational arithmetic (R16), and the real numbers that events and operands stand for. -/

namespace Sys2Proof.Machine

/-- `round`: the nearest integer, a tie going away from zero (00_scope R16, 92 D8). -/
def roundHalfAway (x : ℚ) : Int :=
  if 0 ≤ x then (x + 1 / 2).floor else -((-x + 1 / 2).floor)

/-- `asr(raw, 8)`: the floor of a division by 256 (00_scope R15). -/
def asr8 (raw : Int) : Int :=
  raw / 256

/-- `counter_hertz(range, val)` (40_counter_decoder R141). -/
def counterHertz (range : Byte) (val : BitVec 24) : CounterValue :=
  if range = Config.chA then .hertz (2 * 128 * (val.toNat : ℚ))
  else if range = Config.chB then .hertz (2 * (val.toNat : ℚ))
  else if range = Config.chC then
    if val = 0#24 then .divideByZero else .hertz (2000000 / (val.toNat : ℚ))
  else if range = Config.chLowerA then .hertz (128 * (val.toNat : ℚ) / 5)
  else if range = Config.chLowerB then .hertz ((val.toNat : ℚ) / 5)
  else .noFormula

/-- The factor K of the generator frequency scale: 9, 6, 7, or no formula (00_scope R11, 43_generator_encoder R209). -/
def waveFactor : Wave → Option ℚ
  | .sine => some 9
  | .triangle => some 9
  | .sawtooth => some 6
  | .square => some 7
  | .unknown => none
  | .bwVideo => none
  | .serial => none
  | .serialInverted => none

/-- `hertz_to_raw(hz, w)`; `none` is `Unsupported` (43_generator_encoder R209). -/
def hertzToRaw (hz : ℚ) (w : Wave) : Option Int :=
  match waveFactor w with
  | some k => some (roundHalfAway (Config.freqNum * k * hz / Config.freqDen))
  | none => none

/-- `frequency_to_hertz(raw, w)` (42_generator_decoder R179). -/
def frequencyToHertz (raw : Int) : Wave → HertzOrPeriod
  | .sine => .hertz (num (raw * Config.freqDen / (Config.freqNum * 9)))
  | .triangle => .hertz (num (raw * Config.freqDen / (Config.freqNum * 9)))
  | .sawtooth => .hertz (num (raw * Config.freqDen / (Config.freqNum * 6)))
  | .square => .hertz (num (raw * Config.freqDen / (Config.freqNum * 7)))
  | .serial => if asr8 raw = 0 then .absent else .period (num (Config.serialPeriod / (asr8 raw : ℚ)))
  | .serialInverted => if asr8 raw = 0 then .absent else .period (num (Config.serialPeriod / (asr8 raw : ℚ)))
  | .bwVideo => .absent
  | .unknown => .absent

/-- `amplitude_to_volts(a)` (42_generator_decoder R180). -/
def amplitudeToVolts (a : Byte) : ℚ :=
  (a.toNat : ℚ) * Config.voltsPerUnit

/-- `offset_to_volts(a)`, whose argument is the AMPLITUDE byte (42_generator_decoder R181). -/
def offsetToVolts (a : Byte) : ℚ :=
  -((a.toNat : ℚ) * Config.voltsPerUnit / 2)

/-- `vam_magnitude(sum, count, scale, gain, zero, m)` for `count > 0`: the real
`sqrt(sum / count) * scale / |gain - zero| * (m / 1000)`, with the rational factors moved under the root
(44_vameter_decoder R246, R250; log 11). -/
def vamMagnitude (sum : ℚ) (count : Nat) (scale : ScaleEntry) (gain zero : ℚ) (m : CalFactor) : Magnitude :=
  if gain = zero then .divideByZero
  else .value
    { radicand := sum / (count : ℚ) * ((m.val : ℚ) / 1000) ^ 2 / (gain - zero) ^ 2
      scale := scale }

/-! ### What the numbers stand for. Nothing the machine computes depends on these. -/

/-- The OPEN scale table entry, a real number (00_scope R10). -/
noncomputable def scaleReal : ScaleEntry → ℝ
  | .voltage i => Config.vamVScale i
  | .current i => Config.vamIScale i

/-- The real number of a sample's magnitude, by the formula of 44_vameter_decoder R246. R252, 60_exceptions R282 and 92 D27
call it non-negative; it is that wherever the scale entry is, and the sign of an entry is left open (log 27). -/
noncomputable def sampleReal (v : SampleValue) : ℝ :=
  Real.sqrt (v.radicand : ℝ) * scaleReal v.scale

/-- The real number an exact value stands for. -/
noncomputable def exactReal : ExactReal → ℝ
  | .rational x => (x : ℝ)
  | .magnitude v => sampleReal v

/-- What an event's number reads as in the number format `F`: `F.num` of the exact real, applied once (00_scope R16). -/
noncomputable def numValue (F : NumberFormat) (n : EventNum) : F.NUM :=
  F.num (exactReal n.arg)

/-- `round` on the reals (00_scope R16). -/
noncomputable def roundHalfAwayReal (x : ℝ) : Int :=
  if 0 ≤ x then ⌊x + 1 / 2⌋ else -⌊-x + 1 / 2⌋

/-- `hertz_to_raw` on the reals, as 43_generator_encoder R209 prints it. `hertzToRaw` is this function on the rationals. -/
noncomputable def hertzToRawReal (hz : ℝ) : Wave → Option Int
  | .sine => some (roundHalfAwayReal (16777216 * 9 * hz / 20000000))
  | .triangle => some (roundHalfAwayReal (16777216 * 9 * hz / 20000000))
  | .sawtooth => some (roundHalfAwayReal (16777216 * 6 * hz / 20000000))
  | .square => some (roundHalfAwayReal (16777216 * 7 * hz / 20000000))
  | .unknown => none
  | .bwVideo => none
  | .serial => none
  | .serialInverted => none

/-- The operand with which the command for a REAL number of hertz is issued (43_generator_encoder R210): operands are
data, so a real, irrational or not, stands as the rational whose scaled value is exactly the integer that the real's
scaled value rounds to (log 10); the real is the operand in every number format (log 26). -/
noncomputable def realOperand (hz : ℝ) (w : Wave) : ℚ :=
  match hertzToRawReal hz w, waveFactor w with
  | some r, some k => (r : ℚ) * Config.freqDen / (Config.freqNum * k)
  | _, _ => 0

end Sys2Proof.Machine
end

