-- ==== Sys2Proof/Syntax.lean ====
section
/-! DEFINITION. The operations of the block: one constructor per row of spec/opcode_table.json (30_encoding R130), with
the operands its rule names. Where a rule reads an operand off the sequencing state (the nibble number of CNT.NIB,
`hw` of VAM.IRANGE, the quantity of VAM.SMPHI) the operand is a field, and the decoder fills it (log 18). -/

namespace Sys2Proof

/-- The 33 operations. -/
inductive Instr where
  /-- `CNT.SENT` (R142) -/
  | cntSent
  /-- `CNT.LOST` (R143) -/
  | cntLost (b : Byte)
  /-- `CNT.RANGE` (R144) -/
  | cntRange (b : Byte)
  /-- `CNT.NIB` (R146); `n` is the stage's nibble number -/
  | cntNib (n : Fin 5) (b : Byte)
  /-- `CNT.NIB5` (R147) -/
  | cntNib5 (b : Byte)
  /-- `CNT.SET_MODE` (R160) -/
  | cntSetMode (m : Byte)
  /-- `CNT.SET_TRIGGER` (R161); the level is a 32-bit two's complement integer -/
  | cntSetTrigger (level : BitVec 32)
  /-- `GEN.MEMLD` (R170); `slot` is `b & 0x07` -/
  | genMemld (slot : BitVec 3)
  /-- `GEN.ACK` (R171) -/
  | genAck
  /-- `GEN.PKT` (R172) -/
  | genPkt
  /-- `GEN.LOST` (R177) -/
  | genLost (b : Byte)
  /-- `GEN.DATA` (R173) -/
  | genData (b : Byte)
  /-- `GEN.LAST` (R174) -/
  | genLast (b : Byte)
  /-- `GEN.SAVE` (R201) -/
  | genSave (slot : Byte)
  /-- `GEN.LOAD` (R202) -/
  | genLoad (slot : Byte)
  /-- `GEN.SET_WAVE` (R203) -/
  | genSetWave (wave : Byte)
  /-- `GEN.SET_FILTER` (R204) -/
  | genSetFilter (f : Byte)
  /-- `GEN.SET_AMPLITUDE` (R205) -/
  | genSetAmplitude (a : Byte)
  /-- `GEN.SET_OFFSET` (R206) -/
  | genSetOffset (o : Byte)
  /-- `GEN.SET_FREQUENCY` (R207) -/
  | genSetFrequency (f : BitVec 32)
  /-- `GEN.REQUEST_STATE` (R208) -/
  | genRequestState
  /-- `GEN.SET_FREQ_HZ` (R210); `hz` as exact data: a rational, with which every real acts (log 10), in every number format
  (log 26) -/
  | genSetFreqHz (hz : ℚ) (wave : Wave)
  /-- `VAM.CTRL` (R232) -/
  | vamCtrl (b : Byte)
  /-- `VAM.VRANGE` (R236) -/
  | vamVrange (b : Byte)
  /-- `VAM.IRANGE` (R237); `hw` is false under `IRange2A`, true under `IRange600mA` -/
  | vamIrange (hw : Bool) (b : Byte)
  /-- `VAM.REFLO` (R239) -/
  | vamReflo (b : Byte)
  /-- `VAM.REFHI` (R240) -/
  | vamRefhi (b : Byte)
  /-- `VAM.SMPLO` (R241) -/
  | vamSmplo (b : Byte)
  /-- `VAM.SMPHI` (R242); `q` is voltage under `VSample`, current under `ISample` -/
  | vamSmphi (q : Quantity) (b : Byte)
  /-- `VAM.STRAY` (R248) -/
  | vamStray (b : Byte)
  /-- `VAM.CAL_LOAD` (R270) -/
  | vamCalLoad (src : CalSource)
  /-- `VAM.CAL_UNLOAD` (R271) -/
  | vamCalUnload
  /-- `RESET` of one unit (R320) -/
  | reset (u : UnitId)
deriving DecidableEq, Repr

end Sys2Proof
end

