-- ==== Sys2Proof/WellFormed.lean ====
section
/-! DEFINITION. Which terms of `Instr` are operations of the block: the byte operand of a receive operation lies among
the byte values that select it (30_encoding R103, R105, R130). The operands of the commands have exactly the domains
their types say (43 R200, 41 R160, R161, 45 R270). -/

namespace Sys2Proof

/-- The bytes GEN takes for a notification or a packet start outside a packet: `0x30..0x37`, `0xD3`, `0xD2`
(30_encoding R103). -/
def genKnown (b : Byte) : Bool :=
  (Config.genMemFirst ≤ b && b ≤ Config.genMemLast) || b == Config.genAckByte || b == Config.genSentinel

/-- The byte operand is one that selects the operation. -/
def Instr.wf : Instr → Bool
  | .cntLost b => b != Config.cntSentinel
  | .genLost b => !genKnown b
  | .vamCtrl b => b.msb
  | .vamVrange b | .vamIrange _ b | .vamReflo b | .vamRefhi b | .vamSmplo b | .vamSmphi _ b | .vamStray b => !b.msb
  | .cntSent | .cntRange _ | .cntNib _ _ | .cntNib5 _ | .cntSetMode _ | .cntSetTrigger _ => true
  | .genMemld _ | .genAck | .genPkt | .genData _ | .genLast _ => true
  | .genSave _ | .genLoad _ | .genSetWave _ | .genSetFilter _ | .genSetAmplitude _ | .genSetOffset _ => true
  | .genSetFrequency _ | .genRequestState | .genSetFreqHz _ _ => true
  | .vamCalLoad _ | .vamCalUnload | .reset _ => true

end Sys2Proof
end

