-- ==== Sys2Proof/Decode.lean ====
section
/-! DEFINITION. The decoders and the encoder. What a received byte selects depends on the unit, on its sequencing state
and on the byte (30_encoding R100): `decodeRx`. What a sent byte sequence says to the instrument is the other
direction's table (R106, R107, R108): `decodeTx`, total on any bytes and rejecting by name. A host command decodes to
its operation by `decodeCommand`. The encoder stands after them. -/

namespace Sys2Proof

/-! ### What the outside delivers -/

/-- What the host can issue at a command port (00_scope R13: `CmdStep`, `HostStep`, `Reset`). -/
inductive Command where
  | cntSetMode (m : Byte)
  | cntSetTrigger (level : BitVec 32)
  | genSave (slot : Byte)
  | genLoad (slot : Byte)
  | genSetWave (wave : Byte)
  | genSetFilter (f : Byte)
  | genSetAmplitude (a : Byte)
  | genSetOffset (o : Byte)
  | genSetFrequency (f : BitVec 32)
  | genRequestState
  | genSetFreqHz (hz : ℚ) (wave : Wave)
  | vamCalLoad (src : CalSource)
  | vamCalUnload
  | reset (u : UnitId)
deriving DecidableEq, Repr

/-- The command `GEN.SET_FREQ_HZ` for a REAL number of hertz (43_generator_encoder R210; log 10). R210 has `hz` "in the
format `NUM` at the port", but the spec maps reals to `NUM` and not back. DESIGN CHOICE (log 26): in every number format
the operand is the real number itself; in the decided default, where `NUM` is the reals, that is what R210 says. -/
noncomputable def Command.genSetFreqHzReal (hz : ℝ) (wave : Wave) : Command :=
  .genSetFreqHz (Machine.realOperand hz wave) wave

/-- One strobe from the outside: a byte on a unit's rx port, or a command (20_memory R70). -/
inductive Input where
  | rx (u : UnitId) (b : Byte)
  | cmd (c : Command)
deriving DecidableEq, Repr

/-- The sequencing state of the three units, the block's analogue of a program counter (10_state R22). -/
structure SeqState where
  cntStage : CntStage
  genAwaiting : Bool
  genRxlen : BitVec 4
  vamCmd : VamCmd
  vamLatchFull : Bool
deriving DecidableEq, Repr

/-! ### The receive decoder -/

/-- The dispatch of `RxStep(CNT, b)` (40_counter_decoder R140). -/
def decodeCnt (stage : CntStage) (b : Byte) : Instr :=
  match stage with
  | .awaitSentinel => if b = Config.cntSentinel then .cntSent else .cntLost b
  | .awaitRange => .cntRange b
  | .collectingNibble n => if h : n.val < 5 then .cntNib ⟨n.val, h⟩ b else .cntNib5 b

/-- The dispatch of `RxStep(GEN, b)` (42_generator_decoder R178). -/
def decodeGen (awaiting : Bool) (rxlen : BitVec 4) (b : Byte) : Instr :=
  if awaiting = false then
    if Config.genMemFirst ≤ b ∧ b ≤ Config.genMemLast then .genMemld (b.setWidth 3)
    else if b = Config.genAckByte then .genAck
    else if b = Config.genSentinel then .genPkt
    else .genLost b
  else if rxlen < 9#4 then .genData b
  else .genLast b

/-- The dispatch of `RxStep(VAM, b)` (44_vameter_decoder R230). -/
def decodeVam (cmd : VamCmd) (latchFull : Bool) (b : Byte) : Instr :=
  if b.msb = true then .vamCtrl b
  else
    match cmd with
    | .vRange => .vamVrange b
    | .iRange2A => .vamIrange false b
    | .iRange600mA => .vamIrange true b
    | .vZero => if latchFull then .vamRefhi b else .vamReflo b
    | .vGain => if latchFull then .vamRefhi b else .vamReflo b
    | .iZero => if latchFull then .vamRefhi b else .vamReflo b
    | .iGain => if latchFull then .vamRefhi b else .vamReflo b
    | .vSample => if latchFull then .vamSmphi .voltage b else .vamSmplo b
    | .iSample => if latchFull then .vamSmphi .current b else .vamSmplo b
    | .none => .vamStray b

/-- The receive operation a byte selects: total on every sequencing state and byte (30_encoding R131). -/
def decodeRx (q : SeqState) (u : UnitId) (b : Byte) : Instr :=
  match u with
  | .cnt => decodeCnt q.cntStage b
  | .gen => decodeGen q.genAwaiting q.genRxlen b
  | .vam => decodeVam q.vamCmd q.vamLatchFull b

/-- The operation a command is (30_encoding R130: selected by "host command", "host operation"). -/
def decodeCommand : Command → Instr
  | .cntSetMode m => .cntSetMode m
  | .cntSetTrigger level => .cntSetTrigger level
  | .genSave slot => .genSave slot
  | .genLoad slot => .genLoad slot
  | .genSetWave wave => .genSetWave wave
  | .genSetFilter f => .genSetFilter f
  | .genSetAmplitude a => .genSetAmplitude a
  | .genSetOffset o => .genSetOffset o
  | .genSetFrequency f => .genSetFrequency f
  | .genRequestState => .genRequestState
  | .genSetFreqHz hz wave => .genSetFreqHz hz wave
  | .vamCalLoad src => .vamCalLoad src
  | .vamCalUnload => .vamCalUnload
  | .reset u => .reset u

/-- The operation an input selects. -/
def decode (q : SeqState) : Input → Instr
  | .rx u b => decodeRx q u b
  | .cmd c => decodeCommand c

/-! ### The transmit decoder: what the instrument reads -/

/-- Why a byte sequence is no command the block can send (30_encoding R120). -/
inductive TxReject where
  /-- no byte at all -/
  | empty
  /-- the first byte opens no command of the unit -/
  | unknownFirstByte (b : Byte)
  /-- fewer or more bytes than the first byte announces (R121) -/
  | wrongLength (b : Byte)
  /-- an operand byte with bits the block never sets (R107) -/
  | operandBits (b : Byte)
  /-- VAM has no transmit side (20_memory R70) -/
  | noTransmitSide
deriving DecidableEq, Repr

/-- The number of bytes a generator command has, fixed by its first byte (30_encoding R121). -/
def genTxLength (first : Byte) : Nat :=
  if first = Config.chS then 4
  else if first = Config.chF ∨ first = Config.chV ∨ first = Config.chO then 2
  else 1

/-- The counter commands (30_encoding R106). A mode byte is tried after the trigger pattern, mode 0 first (log 19). -/
def decodeTxCnt (bytes : List Byte) : Except TxReject Instr :=
  match bytes with
  | [] => .error .empty
  | [b] =>
    if b &&& 0xC0#8 = 0x80#8 ∧ b ≠ 0x80#8 then
      .ok (.cntSetTrigger ((b &&& 0x3F#8).setWidth 32 - 32#32))
    else if b = Config.cntModeByte 0 then .ok (.cntSetMode 0#8)
    else if b = Config.cntModeByte 1 then .ok (.cntSetMode 1#8)
    else if b = Config.cntModeByte 2 then .ok (.cntSetMode 2#8)
    else .error (.unknownFirstByte b)
  | b :: _ => .error (.wrongLength b)

/-- The generator commands (30_encoding R107). The byte `0x30` is what wave operand 8 sends (43 R203; log 19). -/
def decodeTxGen (bytes : List Byte) : Except TxReject Instr :=
  match bytes with
  | [] => .error .empty
  | first :: operands =>
    if genTxLength first ≠ bytes.length then .error (.wrongLength first)
    else
      match operands with
      | [] =>
        if first &&& 0xF8#8 = 0x60#8 then .ok (.genSave (first &&& 0x07#8))
        else if first &&& 0xF8#8 = 0x70#8 then .ok (.genLoad (first &&& 0x07#8))
        else if first = 0x30#8 then .ok (.genSetWave 8#8)
        else if first &&& 0xF8#8 = 0x30#8 then .ok (.genSetWave (first &&& 0x07#8))
        else if first = Config.chQuestion then .ok .genRequestState
        else .error (.unknownFirstByte first)
      | [x] =>
        if first = Config.chF then
          if x &&& 0xFC#8 = 0x00#8 then .ok (.genSetFilter x) else .error (.operandBits x)
        else if first = Config.chV then .ok (.genSetAmplitude x)
        else .ok (.genSetOffset x)
      | [b2, b1, b0] => .ok (.genSetFrequency ((0x00#8 ++ b2 ++ b1 ++ b0).setWidth 32))
      | _ => .error (.wrongLength first)

/-- What a byte sequence sent by a unit says, total on any bytes. -/
def decodeTx (u : UnitId) (bytes : List Byte) : Except TxReject Instr :=
  match u with
  | .cnt => decodeTxCnt bytes
  | .gen => decodeTxGen bytes
  | .vam => .error .noTransmitSide

/-! ### The encoder -/

/-- The bytes of a 24-bit frequency word after `'S'`, most significant first (20_memory R75, 30_encoding R107). -/
def encodeFrequency (f : BitVec 32) : List Byte :=
  [Config.chS, f.extractLsb' 16 8, f.extractLsb' 8 8, f.extractLsb' 0 8]

/-- The six-bit trigger field, `clamp(level, -31, 31) + 32` (30_encoding R115). -/
def encodeTrigger (level : BitVec 32) : Byte :=
  BitVec.ofInt 8 (0x80 + (max (-31) (min 31 level.toInt) + 32))

/-- The byte encoding of an operation (30_encoding R100): of a receive operation the byte that selects it, of a
transmit operation the bytes it sends (R106, R107, R120), of a host operation nothing. -/
def encode : Instr → List Byte
  | .cntSent => [0xC9#8]
  | .cntLost b => [b]
  | .cntRange b => [b]
  | .cntNib _ b => [b]
  | .cntNib5 b => [b]
  | .cntSetMode m => if h : m.toNat < 3 then [Config.cntModeByte ⟨m.toNat, h⟩] else []
  | .cntSetTrigger level => [encodeTrigger level]
  | .genMemld slot => [0b00110#5 ++ slot]
  | .genAck => [0xD3#8]
  | .genPkt => [0xD2#8]
  | .genLost b => [b]
  | .genData b => [b]
  | .genLast b => [b]
  | .genSave slot => [0b01100#5 ++ slot.extractLsb' 0 3]
  | .genLoad slot => [0b01110#5 ++ slot.extractLsb' 0 3]
  | .genSetWave wave => if wave = 0#8 then [] else [0b00110#5 ++ wave.extractLsb' 0 3]
  | .genSetFilter f => [0x46#8, 0b000000#6 ++ f.extractLsb' 0 2]
  | .genSetAmplitude a => [0x56#8, a]
  | .genSetOffset o => [0x4F#8, o]
  | .genSetFrequency f => encodeFrequency f
  | .genRequestState => [0x3F#8]
  | .genSetFreqHz hz wave =>
    match Machine.hertzToRaw hz wave with
    | some r => encodeFrequency (BitVec.ofInt 32 r)
    | none => []
  | .vamCtrl b => [b]
  | .vamVrange b => [b]
  | .vamIrange _ b => [b]
  | .vamReflo b => [b]
  | .vamRefhi b => [b]
  | .vamSmplo b => [b]
  | .vamSmphi _ b => [b]
  | .vamStray b => [b]
  | .vamCalLoad _ => []
  | .vamCalUnload => []
  | .reset _ => []

/-- The commands whose operands the encoding carries whole, with no bit masked away and no clamp in action: those a
sent byte sequence determines. `CNT.SET_MODE` is not among them, its bytes being OPEN and possibly equal (R10). -/
def Instr.encodable : Instr → Bool
  | .cntSetTrigger level => decide (-31 ≤ level.toInt) && decide (level.toInt ≤ 31)
  | .genSave slot => decide (slot < 8#8)
  | .genLoad slot => decide (slot < 8#8)
  | .genSetWave wave => decide (1#8 ≤ wave) && decide (wave ≤ 8#8)
  | .genSetFilter f => decide (f < 4#8)
  | .genSetFrequency f => decide (f < 0x01000000#32)
  | .genSetAmplitude _ => true
  | .genSetOffset _ => true
  | .genRequestState => true
  | .cntSetMode _ | .genSetFreqHz _ _ => false
  | .cntSent | .cntLost _ | .cntRange _ | .cntNib _ _ | .cntNib5 _ => false
  | .genMemld _ | .genAck | .genPkt | .genLost _ | .genData _ | .genLast _ => false
  | .vamCtrl _ | .vamVrange _ | .vamIrange _ _ | .vamReflo _ | .vamRefhi _ | .vamSmplo _ => false
  | .vamSmphi _ _ | .vamStray _ | .vamCalLoad _ | .vamCalUnload | .reset _ => false

/-! ### Classification -/

/-- The unit an operation acts on (30_encoding R130). -/
def Instr.unit : Instr → UnitId
  | .cntSent | .cntLost _ | .cntRange _ | .cntNib _ _ | .cntNib5 _ | .cntSetMode _ | .cntSetTrigger _ => .cnt
  | .genMemld _ | .genAck | .genPkt | .genLost _ | .genData _ | .genLast _ => .gen
  | .genSave _ | .genLoad _ | .genSetWave _ | .genSetFilter _ | .genSetAmplitude _ | .genSetOffset _ => .gen
  | .genSetFrequency _ | .genRequestState | .genSetFreqHz _ _ => .gen
  | .vamCtrl _ | .vamVrange _ | .vamIrange _ _ | .vamReflo _ | .vamRefhi _ | .vamSmplo _ => .vam
  | .vamSmphi _ _ | .vamStray _ | .vamCalLoad _ | .vamCalUnload => .vam
  | .reset u => u

/-- The unit a strobe acts on. -/
def inputUnit : Input → UnitId
  | .rx u _ => u
  | .cmd c => (decodeCommand c).unit

/-- The kinds of operation (30_encoding R100). -/
inductive OpKind where
  | rx
  | tx
  | host
deriving DecidableEq, Repr

/-- The kind of each operation (the "kind" column of 30_encoding R130). -/
def Instr.kind : Instr → OpKind
  | .cntSent | .cntLost _ | .cntRange _ | .cntNib _ _ | .cntNib5 _ => .rx
  | .genMemld _ | .genAck | .genPkt | .genLost _ | .genData _ | .genLast _ => .rx
  | .vamCtrl _ | .vamVrange _ | .vamIrange _ _ | .vamReflo _ | .vamRefhi _ | .vamSmplo _ => .rx
  | .vamSmphi _ _ | .vamStray _ => .rx
  | .cntSetMode _ | .cntSetTrigger _ => .tx
  | .genSave _ | .genLoad _ | .genSetWave _ | .genSetFilter _ | .genSetAmplitude _ | .genSetOffset _ => .tx
  | .genSetFrequency _ | .genRequestState | .genSetFreqHz _ _ => .tx
  | .vamCalLoad _ | .vamCalUnload | .reset _ => .host

/-- The sequencing states in which an operation can be selected: the contexts of 30_encoding R130's "selected by"
column (the byte values are `Instr.wf`). A command can be issued in any. -/
def SeqState.selects (q : SeqState) : Instr → Prop
  | .cntSent => q.cntStage = .awaitSentinel
  | .cntLost _ => q.cntStage = .awaitSentinel
  | .cntRange _ => q.cntStage = .awaitRange
  | .cntNib n _ => q.cntStage = .collectingNibble n.castSucc
  | .cntNib5 _ => q.cntStage = .collectingNibble 5
  | .genMemld _ => q.genAwaiting = false
  | .genAck => q.genAwaiting = false
  | .genPkt => q.genAwaiting = false
  | .genLost _ => q.genAwaiting = false
  | .genData _ => q.genAwaiting = true ∧ 1 ≤ q.genRxlen.toNat ∧ q.genRxlen.toNat ≤ 8
  | .genLast _ => q.genAwaiting = true ∧ q.genRxlen.toNat = 9
  | .vamCtrl _ => True
  | .vamVrange _ => q.vamCmd = .vRange
  | .vamIrange hw _ => q.vamCmd = if hw then .iRange600mA else .iRange2A
  | .vamReflo _ => q.vamCmd ∈ [.vZero, .vGain, .iZero, .iGain] ∧ q.vamLatchFull = false
  | .vamRefhi _ => q.vamCmd ∈ [.vZero, .vGain, .iZero, .iGain] ∧ q.vamLatchFull = true
  | .vamSmplo _ => q.vamCmd ∈ [.vSample, .iSample] ∧ q.vamLatchFull = false
  | .vamSmphi qty _ =>
    (q.vamCmd = match qty with | .voltage => VamCmd.vSample | .current => VamCmd.iSample) ∧ q.vamLatchFull = true
  | .vamStray _ => q.vamCmd = .none
  | .cntSetMode _ | .cntSetTrigger _ => True
  | .genSave _ | .genLoad _ | .genSetWave _ | .genSetFilter _ | .genSetAmplitude _ | .genSetOffset _ => True
  | .genSetFrequency _ | .genRequestState | .genSetFreqHz _ _ => True
  | .vamCalLoad _ | .vamCalUnload | .reset _ => True

/-! ### The words of the opcode table -/

/-- The sequencing state right after reset (10_state R47). -/
def SeqState.reset : SeqState :=
  { cntStage := .awaitSentinel, genAwaiting := false, genRxlen := 0#4, vamCmd := .none, vamLatchFull := false }

/-- One byte, without the port it stands on, read as the opcode table's rows read it: the most specific pattern first,
receive rows before transmit rows, every unit in the sequencing state right after reset (log 3). -/
def decodeTableByte (b : Byte) : Instr :=
  if b = Config.cntSentinel then decodeRx SeqState.reset .cnt b
  else if genKnown b then decodeRx SeqState.reset .gen b
  else
    match decodeTxGen [b] with
    | .ok i => i
    | .error _ =>
      if b &&& 0xC0#8 = 0x80#8 ∧ b ≠ 0x80#8 then .cntSetTrigger ((b &&& 0x3F#8).setWidth 32 - 32#32)
      else decodeRx SeqState.reset .vam b

/-- The bytes of a table word of `n` bytes, the first sent byte in the most significant place, as the table's `match`
and `mask` number them (log 3). -/
def tableBytes (n w : Nat) : List Byte :=
  (List.range n).map fun k => BitVec.ofNat 8 (w / 256 ^ (n - 1 - k))

/-- The operation whose opcode-table bits are `w`, `nbits` of them. -/
def decodeTableWord (nbits w : Nat) : Option Instr :=
  if 2 ^ nbits ≤ w then none
  else if nbits = 8 then some (decodeTableByte (BitVec.ofNat 8 w))
  else if nbits = 16 then (decodeTxGen (tableBytes 2 w)).toOption
  else if nbits = 32 then (decodeTxGen (tableBytes 4 w)).toOption
  else none

/-- The input that, in a sequencing state that selects it, runs the operation. -/
def Instr.toInput : Instr → Input
  | .cntSetMode m => .cmd (.cntSetMode m)
  | .cntSetTrigger level => .cmd (.cntSetTrigger level)
  | .genSave slot => .cmd (.genSave slot)
  | .genLoad slot => .cmd (.genLoad slot)
  | .genSetWave wave => .cmd (.genSetWave wave)
  | .genSetFilter f => .cmd (.genSetFilter f)
  | .genSetAmplitude a => .cmd (.genSetAmplitude a)
  | .genSetOffset o => .cmd (.genSetOffset o)
  | .genSetFrequency f => .cmd (.genSetFrequency f)
  | .genRequestState => .cmd .genRequestState
  | .genSetFreqHz hz wave => .cmd (.genSetFreqHz hz wave)
  | .vamCalLoad src => .cmd (.vamCalLoad src)
  | .vamCalUnload => .cmd .vamCalUnload
  | .reset u => .cmd (.reset u)
  | .cntSent => .rx .cnt 0xC9#8
  | .cntLost b => .rx .cnt b
  | .cntRange b => .rx .cnt b
  | .cntNib _ b => .rx .cnt b
  | .cntNib5 b => .rx .cnt b
  | .genMemld slot => .rx .gen (0b00110#5 ++ slot)
  | .genAck => .rx .gen 0xD3#8
  | .genPkt => .rx .gen 0xD2#8
  | .genLost b => .rx .gen b
  | .genData b => .rx .gen b
  | .genLast b => .rx .gen b
  | .vamCtrl b => .rx .vam b
  | .vamVrange b => .rx .vam b
  | .vamIrange _ b => .rx .vam b
  | .vamReflo b => .rx .vam b
  | .vamRefhi b => .rx .vam b
  | .vamSmplo b => .rx .vam b
  | .vamSmphi _ b => .rx .vam b
  | .vamStray b => .rx .vam b

end Sys2Proof
end

