-- ==== Sys2Proof/Machine/State.lean ====
section
/-! DEFINITION. The machine's state as plain data: the registers of the three units (10_state), the streams they have
written and the inputs the outside has still to deliver; the events, statuses and errors; the reset state. -/

namespace Sys2Proof.Machine

/-! ### Events, statuses, errors -/

/-- Reasons of `DecodeError`, shared by CNT and VAM (60_exceptions R283). -/
inductive Reason where
  | divideByZero
  | invalidRangeLetter
  | unexpectedData
  | unknownControl
deriving DecidableEq, Repr

/-- Counter events (60_exceptions R280). -/
inductive CntEvent where
  | rangeChanged (range : Byte)
  | measurement (hertz : EventNum)
  | syncLost (byte : Byte)
  | decodeError (reason : Reason)
deriving DecidableEq, Repr

/-- Generator events (60_exceptions R281, 42_generator_decoder R182). -/
inductive GenEvent where
  | memoryLoaded (slot : BitVec 3)
  | acknowledged
  | stateUpdated (wave : Wave) (hertzOrPeriod : HertzOrPeriod) (amplitudeV offsetV : EventNum) (filter : OutFilter)
      (memorySlot : BitVec 3)
  | byteLost (byte : Byte)
deriving DecidableEq, Repr

/-- VAmeter events (60_exceptions R282, 44_vameter_decoder R252). `hwSwitch` false is 0 (2A), true is 1 (600mA);
`byte` of a `decodeError` is absent for `divideByZero`. -/
inductive VamEvent where
  | voltageRangeChanged (index : Fin 8) (label : String)
  | currentRangeChanged (hwSwitch : Bool) (index : Fin 4) (label : String)
  | voltageSample (polarity : Polarity) (value : EventNum)
  | currentSample (polarity : Polarity) (value : EventNum)
  | decodeError (reason : Reason) (byte : Option Byte)
deriving DecidableEq, Repr

/-- Statuses a command or host step returns (60_exceptions R284). -/
inductive Status where
  | ok
  | invalidArgument
  | unsupported
  | calSourceUnavailable
  | calTooFewNumbers
deriving DecidableEq, Repr

/-- The errors a receive step can raise (60_exceptions R286). -/
inductive UnitError where
  | cntSyncLost (b : Byte)
  | cntDivideByZero
  | genByteLost (b : Byte)
  | vamUnknownControl (b : Byte)
  | vamInvalidRangeLetter (b : Byte)
  | vamUnexpectedData (b : Byte)
  | vamDivideByZero
deriving DecidableEq, Repr

/-! ### Registers -/

/-- The counter unit's registers (10_state R23, R27, R28, R29). -/
structure CntRegs where
  /-- `CNT.stage` -/
  stage : CntStage
  /-- `CNT.acc`, 24 bits -/
  acc : BitVec 24
  /-- `CNT.range`; no rule reads it while `rangeValid` is 0 -/
  range : Byte
  /-- `CNT.range_valid` -/
  rangeValid : Bool
deriving DecidableEq, Repr

/-- The generator unit's registers (10_state R24, R31 to R35). -/
structure GenRegs where
  /-- `GEN.awaiting` -/
  awaiting : Bool
  /-- `GEN.rxlen`, 4 bits, 0 to 9 between steps -/
  rxlen : BitVec 4
  /-- `GEN.rxbuf[0..9]`; only elements below `rxlen` hold a value -/
  rxbuf : Vector Byte 10
  /-- `GEN.wave` -/
  wave : Wave
  /-- `GEN.filter` -/
  filter : OutFilter
  /-- `GEN.amplitude` -/
  amplitude : Byte
  /-- `GEN.offset` -/
  offset : Byte
  /-- `GEN.frequency`, 24-bit two's complement -/
  frequency : BitVec 24
  /-- `GEN.memory_slot` -/
  memorySlot : BitVec 3
deriving DecidableEq, Repr

/-- The VAmeter unit's registers (10_state R25, R26, R36 to R44). -/
structure VamRegs where
  /-- `VAM.cmd` -/
  cmd : VamCmd
  /-- `VAM.latch_full` -/
  latchFull : Bool
  /-- `VAM.sample_low`; not read while `latchFull` is 0 -/
  sampleLow : Byte
  /-- `VAM.sum`, an exact rational -/
  sum : ℚ
  /-- `VAM.count` -/
  count : Nat
  /-- `VAM.v_neg` -/
  vNeg : Nat
  /-- `VAM.i_neg` -/
  iNeg : Nat
  /-- `VAM.v_zero` -/
  vZero : ℚ
  /-- `VAM.v_gain` -/
  vGain : ℚ
  /-- `VAM.i_zero` -/
  iZero : ℚ
  /-- `VAM.i_gain` -/
  iGain : ℚ
  /-- `VAM.v_range`, 0 to 7 -/
  vRange : Fin 8
  /-- `VAM.i_range`, 0 to 3 -/
  iRange : Fin 4
  /-- `VAM.v_range_valid` -/
  vRangeValid : Bool
  /-- `VAM.i_range_valid` -/
  iRangeValid : Bool
  /-- `VAM.hw_switch`: false is 0 (2A), true is 1 (600mA) -/
  hwSwitch : Bool
  /-- `VAM.cal_v[0..7]`, thousandths -/
  calV : Vector CalFactor 8
  /-- `VAM.cal_i[0..3]`, thousandths -/
  calI : Vector CalFactor 4
deriving DecidableEq, Repr

/-! ### What the units put out -/

/-- One thing the counter unit hands to the outside: an event on `CNT.ev`, a byte on `CNT.tx`, a status (20_memory R70). -/
inductive CntOut where
  | ev (e : CntEvent)
  | tx (b : Byte)
  | ret (st : Status)
deriving DecidableEq, Repr

/-- One thing the generator unit hands to the outside: an event on `GEN.ev`, a byte on `GEN.tx`, a status
(20_memory R70). -/
inductive GenOut where
  | ev (e : GenEvent)
  | tx (b : Byte)
  | ret (st : Status)
deriving DecidableEq, Repr

/-- One thing the VAmeter unit hands to the outside: an event on `VAM.ev`, a status; it never transmits
(20_memory R70). -/
inductive VamOut where
  | ev (e : VamEvent)
  | ret (st : Status)
deriving DecidableEq, Repr

/-! ### The state -/

/-- How often each unit has been reset in mid-run: the counters the free values of unspecified registers are drawn with.
The model's own field, not the spec's; no rule reads it (log 8). -/
structure ResetCounts where
  cnt : Nat
  gen : Nat
  vam : Nat
deriving DecidableEq, Repr

/-- The machine: the registers of the three units (10_state R20), what each has put out, in the order in which it did
(20_memory R87; log 4), the strobes the outside has still to deliver, in order (log 1), and the counters of the free
values (log 8). -/
structure State where
  cnt : CntRegs
  gen : GenRegs
  vam : VamRegs
  /-- what CNT has put out, oldest first -/
  cntOut : List CntOut
  /-- what GEN has put out, oldest first -/
  genOut : List GenOut
  /-- what VAM has put out, oldest first -/
  vamOut : List VamOut
  inputs : List Input
  resets : ResetCounts
deriving DecidableEq, Repr

/-- Why the machine stops. -/
inductive Fault where
  /-- GEN.DATA was executed with `GEN.rxlen` at 10 or above, so that it would write a buffer register that does not
  exist (10_state R35). Raised by `execGenData`; `step` never selects it there. Safe: the model stops, and no
  run reaches such a state (42_generator_decoder R184; log 14). -/
  | rxbufIndex
deriving DecidableEq, Repr

/-- Why an instruction has no meaning. -/
inductive Refusal where
  /-- The instruction has no meaning in this model. Raised by no arm: every operation of the table has its meaning.
  Safe: the model stops. -/
  | notModelled (mnemonic : String)
  /-- The strobe is for a unit that the instance does not hold (00_scope R3, R10), so that it has no such port. Raised by
  `stepWith`, never by `step`, whose instance holds all three units. Safe: the model stops. -/
  | unitAbsent (u : UnitId)
deriving DecidableEq, Repr

/-! ### Reset -/

/-- The counter registers right after reset of the machine (10_state R47); `range`, unspecified there, is 0 (log 5). -/
def CntRegs.reset : CntRegs :=
  { stage := .awaitSentinel, acc := 0#24, range := 0#8, rangeValid := false }

/-- The generator registers right after reset of the machine (10_state R47); `rxbuf`, unspecified there, is 0 (log 6). -/
def GenRegs.reset : GenRegs :=
  { awaiting := false, rxlen := 0#4, rxbuf := Vector.replicate 10 0#8, wave := .unknown, filter := .unknown,
    amplitude := 0#8, offset := 0#8, frequency := 0#24, memorySlot := 0#3 }

/-- The VAmeter registers right after reset of the machine (10_state R47); `sampleLow`, unspecified there, is 0
(log 7). -/
def VamRegs.reset : VamRegs :=
  { cmd := .none, latchFull := false, sampleLow := 0#8, sum := 0, count := 0, vNeg := 0, iNeg := 0,
    vZero := 0, vGain := 0, iZero := 0, iGain := 0, vRange := 0, iRange := 0,
    vRangeValid := false, iRangeValid := false, hwSwitch := false,
    calV := Vector.replicate 8 Config.calDefault, calI := Vector.replicate 4 Config.calDefault }

/-- Right after reset: every unit reset, nothing sent, nothing waiting (10_state R47, 70_reset_and_hazards R321). -/
def State.reset : State :=
  { cnt := CntRegs.reset, gen := GenRegs.reset, vam := VamRegs.reset,
    cntOut := [], genOut := [], vamOut := [], inputs := [], resets := { cnt := 0, gen := 0, vam := 0 } }

/-! ### The streams, read off what the units put out -/

/-- The bytes on `CNT.tx`. -/
def State.cntTx (s : State) : List Byte := s.cntOut.filterMap fun | .tx b => some b | .ev _ => none | .ret _ => none
/-- The events on `CNT.ev`. -/
def State.cntEv (s : State) : List CntEvent := s.cntOut.filterMap fun | .ev e => some e | .tx _ => none | .ret _ => none
/-- The statuses CNT has returned. -/
def State.cntRet (s : State) : List Status := s.cntOut.filterMap fun | .ret x => some x | .ev _ => none | .tx _ => none
/-- The bytes on `GEN.tx`. -/
def State.genTx (s : State) : List Byte := s.genOut.filterMap fun | .tx b => some b | .ev _ => none | .ret _ => none
/-- The events on `GEN.ev`. -/
def State.genEv (s : State) : List GenEvent := s.genOut.filterMap fun | .ev e => some e | .tx _ => none | .ret _ => none
/-- The statuses GEN has returned. -/
def State.genRet (s : State) : List Status := s.genOut.filterMap fun | .ret x => some x | .ev _ => none | .tx _ => none
/-- The events on `VAM.ev`. -/
def State.vamEv (s : State) : List VamEvent := s.vamOut.filterMap fun | .ev e => some e | .ret _ => none
/-- The statuses VAM has returned. -/
def State.vamRet (s : State) : List Status := s.vamOut.filterMap fun | .ret x => some x | .ev _ => none

/-- The sequencing state of the three units (10_state R22). -/
def State.seq (s : State) : SeqState :=
  { cntStage := s.cnt.stage, genAwaiting := s.gen.awaiting, genRxlen := s.gen.rxlen, vamCmd := s.vam.cmd,
    vamLatchFull := s.vam.latchFull }

end Sys2Proof.Machine
end

