-- ==== Sys2Proof/Machine/Flags.lean ====
section
/-! DEFINITION. The one-bit tests the rules make and the polarity classification. The block has no condition codes
(10_state R30): none of these is stored. -/

namespace Sys2Proof.Machine

/-- A range byte counts as a change when none is stored or it differs from the stored one (40_counter_decoder R144). -/
def cntRangeChanged (r : CntRegs) (b : Byte) : Bool :=
  !r.rangeValid || b != r.range

/-- A voltage range index counts as a change when none has been received or it differs (44_vameter_decoder R236). -/
def vRangeChanged (r : VamRegs) (idx : Fin 8) : Bool :=
  !r.vRangeValid || idx != r.vRange

/-- A current range index counts as a change when none has been received, it differs, or the variant differs
(44_vameter_decoder R237). -/
def iRangeChanged (r : VamRegs) (hw : Bool) (idx : Fin 4) : Bool :=
  !r.iRangeValid || idx != r.iRange || hw != r.hwSwitch

/-- The deviation of a sample is negative, decided exactly (44_vameter_decoder R242). -/
def isNegative (dev : ℚ) : Bool :=
  decide (dev < 0)

/-- `polarity(neg, count)`; `count - 2` on signed integers (44_vameter_decoder R245, 30_encoding R118). -/
def polarity (neg count : Nat) : Polarity :=
  if neg ≤ 2 then .dcPositive
  else if (count : Int) - 2 < (neg : Int) then .dcNegative
  else .ac

end Sys2Proof.Machine
end

