-- ==== Sys2Proof/Machine/Operands.lean ====
section
/-! DEFINITION. Field extraction and assembly (30_encoding R106 to R118): how operands are read out of bytes and how
command bytes are built, and the VAmeter's control-code table. -/

namespace Sys2Proof.Machine

/-! ### Counter -/

/-- `(b & 0x0F) << (4 * n)` in 24 bits (40_counter_decoder R146). -/
def nibbleAt (n : Nat) (b : Byte) : BitVec 24 :=
  (b &&& 0x0F#8).setWidth 24 <<< (4 * n)

/-- `clamp(v, lo, hi)` (00_scope R15). -/
def clamp (v lo hi : Int) : Int :=
  if v < lo then lo else if hi < v then hi else v

/-- `0x80 | t` with `t = clamp(level, -31, 31) + 32` (41_counter_encoder R161, 30_encoding R115). -/
def triggerByte (level : BitVec 32) : Byte :=
  0x80#8 ||| BitVec.ofInt 8 (clamp level.toInt (-Config.triggerMax) Config.triggerMax + Config.triggerBias)

/-! ### Generator -/

/-- `wave_of(w)`: the variant with code `w`, `Unknown` from 8 on (42_generator_decoder R176). -/
def waveOf (w : Byte) : Wave :=
  if w = 1#8 then .sine
  else if w = 2#8 then .triangle
  else if w = 3#8 then .sawtooth
  else if w = 4#8 then .square
  else if w = 5#8 then .bwVideo
  else if w = 6#8 then .serial
  else if w = 7#8 then .serialInverted
  else .unknown

/-- `filter_of(f)`: the variant with code `f`, `Unknown` from 4 on (42_generator_decoder R176). -/
def filterOf (f : Byte) : OutFilter :=
  if f = 0#8 then .none
  else if f = 1#8 then .f100kHz
  else if f = 2#8 then .f8kHz
  else if f = 3#8 then .f600Hz
  else .unknown

/-- `b & 0x07` as a memory slot (42_generator_decoder R183). -/
def slotOf (b : Byte) : BitVec 3 :=
  (b &&& 0x07#8).setWidth 3

/-- `[0x53, (f >> 16) & 0xFF, (f >> 8) & 0xFF, f & 0xFF]` (43_generator_encoder R207). -/
def frequencyBytes (f : BitVec 32) : List Byte :=
  [Config.chS, (f >>> 16 &&& 0xFF#32).setWidth 8, (f >>> 8 &&& 0xFF#32).setWidth 8, (f &&& 0xFF#32).setWidth 8]

/-- `trunc_32(r)`: two's complement in 32 bits (00_scope R15). -/
def trunc32 (r : Int) : BitVec 32 :=
  BitVec.ofInt 32 r

/-! ### VAmeter -/

/-- `((second & 0x0F) << 6) | (first & 0x3F)`, 0 to 1023 (30_encoding R112). -/
def raw10 (second first : Byte) : BitVec 10 :=
  ((second &&& 0x0F#8).setWidth 10 <<< 6) ||| (first &&& 0x3F#8).setWidth 10

/-- The index of a voltage range letter `'A'..'H'`, none outside (30_encoding R116). -/
def vRangeIndex (b : Byte) : Option (Fin 8) :=
  if h : 0x41 ≤ b.toNat ∧ b.toNat ≤ 0x48 then some ⟨b.toNat - 0x41, by omega⟩ else none

/-- The index of a current range letter `'A'..'D'`, none outside (30_encoding R116). -/
def iRangeIndex (b : Byte) : Option (Fin 4) :=
  if h : 0x41 ≤ b.toNat ∧ b.toNat ≤ 0x44 then some ⟨b.toNat - 0x41, by omega⟩ else none

/-- `vam_cmd_of(b)`: the command whose parameter equals the control byte, or `None` (44_vameter_decoder R231). -/
def vamCmdOf (b : Byte) : VamCmd :=
  if b = Config.vamCcVRange then .vRange
  else if b = Config.vamCcVZero then .vZero
  else if b = Config.vamCcVGain then .vGain
  else if b = Config.vamCcVSample then .vSample
  else if b = Config.vamCcIRange2A then .iRange2A
  else if b = Config.vamCcIRange600mA then .iRange600mA
  else if b = Config.vamCcIZero then .iZero
  else if b = Config.vamCcIGain then .iGain
  else if b = Config.vamCcISample then .iSample
  else .none

end Sys2Proof.Machine
end

