-- ==== Sys2Proof/Machine/Ops.lean ====
section
/-! DEFINITION. The named operations over registers and streams (00_scope R17): writing a unit's registers, `emit`,
`send`, `return`, `raise`, and the access to the generator's receive buffer. Every meaning is written over these. -/

namespace Sys2Proof.Machine

/-! ### Register writes -/

/-- Write the counter unit's registers. -/
def State.setCnt (s : State) (r : CntRegs) : State := { s with cnt := r }

/-- Write the generator unit's registers. -/
def State.setGen (s : State) (r : GenRegs) : State := { s with gen := r }

/-- Write the VAmeter unit's registers. -/
def State.setVam (s : State) (r : VamRegs) : State := { s with vam := r }

/-- Replace the strobes still to come. -/
def State.setInputs (s : State) (l : List Input) : State := { s with inputs := l }

/-! ### emit, send, return (00_scope R17) -/

/-- `emit CNT.ev e`. -/
def State.emitCnt (s : State) (e : CntEvent) : State :=
  { s with cntOut := s.cntOut ++ [.ev e] }

/-- `emit GEN.ev e`. -/
def State.emitGen (s : State) (e : GenEvent) : State :=
  { s with genOut := s.genOut ++ [.ev e] }

/-- `emit VAM.ev e`. -/
def State.emitVam (s : State) (e : VamEvent) : State :=
  { s with vamOut := s.vamOut ++ [.ev e] }

/-- `send CNT.tx bytes`: all of them, contiguously, in order (20_memory R72). -/
def State.sendCnt (s : State) (bytes : List Byte) : State :=
  { s with cntOut := s.cntOut ++ bytes.map .tx }

/-- `send GEN.tx bytes`: all of them, contiguously, in order (20_memory R72). -/
def State.sendGen (s : State) (bytes : List Byte) : State :=
  { s with genOut := s.genOut ++ bytes.map .tx }

/-- `return st` from a counter command. -/
def State.retCnt (s : State) (st : Status) : State :=
  { s with cntOut := s.cntOut ++ [.ret st] }

/-- `return st` from a generator command. -/
def State.retGen (s : State) (st : Status) : State :=
  { s with genOut := s.genOut ++ [.ret st] }

/-- `return st` from a VAmeter host operation. -/
def State.retVam (s : State) (st : Status) : State :=
  { s with vamOut := s.vamOut ++ [.ret st] }

/-! ### raise (60_exceptions R292) -/

/-- `raise U.E(info)`: append the error event to the unit's event stream, and nothing else. No state is saved, no cause
or status register is written, control is not transferred; the register writes of the rule follow in its meaning
(60_exceptions R286, R292). There is no return from it, because there is nothing to return from (R293). -/
def State.raise (s : State) : UnitError → State
  | .cntSyncLost b => s.emitCnt (.syncLost b)
  | .cntDivideByZero => s.emitCnt (.decodeError .divideByZero)
  | .genByteLost b => s.emitGen (.byteLost b)
  | .vamUnknownControl b => s.emitVam (.decodeError .unknownControl (some b))
  | .vamInvalidRangeLetter b => s.emitVam (.decodeError .invalidRangeLetter (some b))
  | .vamUnexpectedData b => s.emitVam (.decodeError .unexpectedData (some b))
  | .vamDivideByZero => s.emitVam (.decodeError .divideByZero none)

/-! ### The receive buffer (00_scope R17) -/

/-- `MemWrite(i, 1, v)`. -/
def memWrite (buf : Vector Byte 10) (i : Fin 10) (v : Byte) : Vector Byte 10 :=
  buf.set i.val v i.isLt

/-- `MemRead(i, 1)`. -/
def memRead (buf : Vector Byte 10) (i : Fin 10) : Byte :=
  buf[i.val]

/-- `MemRead(addr, 3)`, first byte most significant, for `addr` at most 7. -/
def memRead3 (buf : Vector Byte 10) (addr : Fin 8) : BitVec 24 :=
  memRead buf ⟨addr.val, by omega⟩ ++ memRead buf ⟨addr.val + 1, by omega⟩ ++ memRead buf ⟨addr.val + 2, by omega⟩

/-! ### Reset of one unit -/

/-- The counter registers after the `k`-th `Reset(CNT)`: R47's values, and a free value where R47 has none. -/
def cntAfterReset (k : Nat) : CntRegs :=
  { CntRegs.reset with range := Config.unspecifiedByte .cnt k 0 }

/-- The generator registers after the `k`-th `Reset(GEN)`: R47's values, and free values where R47 has none. -/
def genAfterReset (k : Nat) : GenRegs :=
  { GenRegs.reset with rxbuf := Vector.ofFn fun i : Fin 10 => Config.unspecifiedByte .gen k i.val }

/-- The VAmeter registers after the `k`-th `Reset(VAM)`: R47's values, and a free value where R47 has none. -/
def vamAfterReset (k : Nat) : VamRegs :=
  { VamRegs.reset with sampleLow := Config.unspecifiedByte .vam k 0 }

/-- `Reset(U)`: every register of unit `U` to its reset value; the registers marked unspecified lose their value; nothing
else is touched but the counter of the free values (70_reset_and_hazards R320, R322; log 8). -/
def State.resetUnit (s : State) : UnitId → State
  | .cnt => { s with cnt := cntAfterReset s.resets.cnt, resets := { s.resets with cnt := s.resets.cnt + 1 } }
  | .gen => { s with gen := genAfterReset s.resets.gen, resets := { s.resets with gen := s.resets.gen + 1 } }
  | .vam => { s with vam := vamAfterReset s.resets.vam, resets := { s.resets with vam := s.resets.vam + 1 } }

end Sys2Proof.Machine
end

