-- ==== Sys2Proof/Machine/Counter.lean ====
section
/-! DEFINITION. The meanings of the counter unit's operations (40_counter_decoder, 41_counter_encoder). -/

namespace Sys2Proof.Machine

/-- `CNT.SENT` (40_counter_decoder R142). -/
def execCntSent (s : State) : Host.Outcome State Fault Refusal :=
  .next (s.setCnt { s.cnt with stage := .awaitRange })

/-- `CNT.LOST` (40_counter_decoder R143). -/
def execCntLost (b : Byte) (s : State) : Host.Outcome State Fault Refusal :=
  .next ((s.raise (.cntSyncLost b)).setCnt { s.cnt with acc := 0#24, stage := .awaitSentinel })

/-- `CNT.RANGE` (40_counter_decoder R144). -/
def execCntRange (b : Byte) (s : State) : Host.Outcome State Fault Refusal :=
  .next
    ((if cntRangeChanged s.cnt b then s.emitCnt (.rangeChanged b) else s).setCnt
      { s.cnt with range := b, rangeValid := true, stage := .collectingNibble 0 })

/-- `CNT.NIB` (40_counter_decoder R146). -/
def execCntNib (n : Fin 5) (b : Byte) (s : State) : Host.Outcome State Fault Refusal :=
  .next (s.setCnt { s.cnt with acc := s.cnt.acc ||| nibbleAt n.val b, stage := .collectingNibble n.succ })

/-- What the sixth nibble reports of the completed value: a measurement, an error, or nothing
(40_counter_decoder R147, R149, R150). -/
def reportCounterValue (v : CounterValue) (s : State) : State :=
  match v with
  | .hertz x => s.emitCnt (.measurement (num x))
  | .divideByZero => s.raise .cntDivideByZero
  | .noFormula => s

/-- `CNT.NIB5` (40_counter_decoder R147). -/
def execCntNib5 (b : Byte) (s : State) : Host.Outcome State Fault Refusal :=
  .next
    ((reportCounterValue (counterHertz s.cnt.range (s.cnt.acc ||| nibbleAt 5 b)) s).setCnt
      { s.cnt with acc := 0#24, stage := .awaitSentinel })

/-- `CNT.SET_MODE(m)` (41_counter_encoder R160). -/
def execCntSetMode (m : Byte) (s : State) : Host.Outcome State Fault Refusal :=
  if h : m.toNat ≤ 2 then .next ((s.sendCnt [Config.cntModeByte ⟨m.toNat, by omega⟩]).retCnt .ok)
  else .next (s.retCnt .invalidArgument)

/-- `CNT.SET_TRIGGER(level)` (41_counter_encoder R161). -/
def execCntSetTrigger (level : BitVec 32) (s : State) : Host.Outcome State Fault Refusal :=
  .next ((s.sendCnt [triggerByte level]).retCnt .ok)

end Sys2Proof.Machine
end

