-- ==== Sys2Proof/Machine/Generator.lean ====
section
/-! DEFINITION. The meanings of the generator unit's operations (42_generator_decoder, 43_generator_encoder). -/

namespace Sys2Proof.Machine

/-! ### Receive -/

/-- `GEN.MEMLD`: the event, then the state request `'?'`, in one step (42_generator_decoder R170). -/
def execGenMemld (slot : BitVec 3) (s : State) : Host.Outcome State Fault Refusal :=
  .next ((s.emitGen (.memoryLoaded slot)).sendGen [Config.chQuestion])

/-- `GEN.ACK` (42_generator_decoder R171). -/
def execGenAck (s : State) : Host.Outcome State Fault Refusal :=
  .next (s.emitGen .acknowledged)

/-- `GEN.PKT` (42_generator_decoder R172). -/
def execGenPkt (s : State) : Host.Outcome State Fault Refusal :=
  .next
    (s.setGen
      { s.gen with rxbuf := memWrite s.gen.rxbuf 0 Config.genSentinel, rxlen := 1#4, awaiting := true })

/-- `GEN.LOST` (42_generator_decoder R177). -/
def execGenLost (b : Byte) (s : State) : Host.Outcome State Fault Refusal :=
  .next (s.raise (.genByteLost b))

/-- `GEN.DATA` (42_generator_decoder R173). There is no element 10 to write (10_state R35; log 14). -/
def execGenData (b : Byte) (s : State) : Host.Outcome State Fault Refusal :=
  if h : s.gen.rxlen.toNat < 10 then
    .next
      (s.setGen
        { s.gen with
          rxbuf := memWrite s.gen.rxbuf ⟨s.gen.rxlen.toNat, h⟩ b
          rxlen := s.gen.rxlen + 1#4 })
  else .fault .rxbufIndex

/-- The configuration registers parsed from a full packet, the packet closed (42_generator_decoder R174, the packet
map of 20_memory R83). -/
def parsePacket (r : GenRegs) (buf : Vector Byte 10) : GenRegs :=
  { r with
    rxbuf := buf
    wave := waveOf (memRead buf 1)
    frequency := memRead3 buf 2
    offset := memRead buf 5
    amplitude := memRead buf 6
    filter := filterOf (memRead buf 7)
    memorySlot := slotOf (memRead buf 8)
    rxlen := 0#4
    awaiting := false }

/-- The `StateUpdated` event of the registers just parsed; `offset_v` is computed from the amplitude byte
(42_generator_decoder R174, R179 to R182). -/
def stateUpdatedEvent (r : GenRegs) : GenEvent :=
  .stateUpdated r.wave (frequencyToHertz r.frequency.toInt r.wave) (num (amplitudeToVolts r.amplitude))
    (num (offsetToVolts r.amplitude)) r.filter r.memorySlot

/-- `GEN.LAST` (42_generator_decoder R174). -/
def execGenLast (b : Byte) (s : State) : Host.Outcome State Fault Refusal :=
  .next
    ((s.emitGen (stateUpdatedEvent (parsePacket s.gen (memWrite s.gen.rxbuf 9 b)))).setGen
      (parsePacket s.gen (memWrite s.gen.rxbuf 9 b)))

/-! ### Transmit -/

/-- `GEN.SAVE(slot)` (43_generator_encoder R201). -/
def execGenSave (slot : Byte) (s : State) : Host.Outcome State Fault Refusal :=
  .next ((s.sendGen [0x60#8 ||| (slot &&& 0x07#8)]).retGen .ok)

/-- `GEN.LOAD(slot)` (43_generator_encoder R202). -/
def execGenLoad (slot : Byte) (s : State) : Host.Outcome State Fault Refusal :=
  .next ((s.sendGen [0x70#8 ||| (slot &&& 0x07#8)]).retGen .ok)

/-- `GEN.SET_WAVE(wave)`: a no-op for wave 0, tested before the mask (43_generator_encoder R203). -/
def execGenSetWave (wave : Byte) (s : State) : Host.Outcome State Fault Refusal :=
  .next ((if wave = 0#8 then s else s.sendGen [0x30#8 ||| (wave &&& 0x07#8)]).retGen .ok)

/-- `GEN.SET_FILTER(f)` (43_generator_encoder R204). -/
def execGenSetFilter (f : Byte) (s : State) : Host.Outcome State Fault Refusal :=
  .next ((s.sendGen [Config.chF, f &&& 0x03#8]).retGen .ok)

/-- `GEN.SET_AMPLITUDE(a)` (43_generator_encoder R205). -/
def execGenSetAmplitude (a : Byte) (s : State) : Host.Outcome State Fault Refusal :=
  .next ((s.sendGen [Config.chV, a]).retGen .ok)

/-- `GEN.SET_OFFSET(o)` (43_generator_encoder R206). -/
def execGenSetOffset (o : Byte) (s : State) : Host.Outcome State Fault Refusal :=
  .next ((s.sendGen [Config.chO, o]).retGen .ok)

/-- `GEN.SET_FREQUENCY(f)` (43_generator_encoder R207). -/
def execGenSetFrequency (f : BitVec 32) (s : State) : Host.Outcome State Fault Refusal :=
  .next ((s.sendGen (frequencyBytes f)).retGen .ok)

/-- `GEN.REQUEST_STATE` (43_generator_encoder R208). -/
def execGenRequestState (s : State) : Host.Outcome State Fault Refusal :=
  .next ((s.sendGen [Config.chQuestion]).retGen .ok)

/-- `GEN.SET_FREQ_HZ(hz, wave)` (43_generator_encoder R210). -/
def execGenSetFreqHz (hz : ℚ) (wave : Wave) (s : State) : Host.Outcome State Fault Refusal :=
  match hertzToRaw hz wave with
  | some r => .next ((s.sendGen (frequencyBytes (trunc32 r))).retGen .ok)
  | none => .next (s.retGen .unsupported)

end Sys2Proof.Machine
end

