-- ==== Sys2Proof/Machine/HostOps.lean ====
section
/-! DEFINITION. The meanings of the host operations: calibration load and unload (45_vameter_calibration_host) and the
reset of one unit (70_reset_and_hazards). -/

namespace Sys2Proof.Machine

/-- The calibration registers from the first twelve numbers of a list (45_vameter_calibration_host R270; the map is
20_memory R84). -/
def loadFactors (r : VamRegs) (l : List CalFactor) (h : 12 ≤ l.length) : VamRegs :=
  { r with
    calV := Vector.ofFn fun k : Fin 8 => l[k.val]'(by omega)
    calI := Vector.ofFn fun k : Fin 4 => l[8 + k.val]'(by omega) }

/-- `VAM.CAL_LOAD(src)` (45_vameter_calibration_host R270). -/
def execVamCalLoad (src : CalSource) (s : State) : Host.Outcome State Fault Refusal :=
  match src with
  | .unavailable => .next (s.retVam .calSourceUnavailable)
  | .numbers l =>
    if h : 12 ≤ l.length then .next ((s.setVam (loadFactors s.vam l h)).retVam .ok)
    else .next (s.retVam .calTooFewNumbers)

/-- `VAM.CAL_UNLOAD` (45_vameter_calibration_host R271). -/
def execVamCalUnload (s : State) : Host.Outcome State Fault Refusal :=
  .next
    ((s.setVam
      { s.vam with
        calV := Vector.replicate 8 Config.calDefault
        calI := Vector.replicate 4 Config.calDefault }).retVam .ok)

/-- `Reset(U)`: no event, no byte, no status (70_reset_and_hazards R320). -/
def execReset (u : UnitId) (s : State) : Host.Outcome State Fault Refusal :=
  .next (s.resetUnit u)

end Sys2Proof.Machine
end

