-- ==== Sys2Proof/Machine/Vameter.lean ====
section
/-! DEFINITION. The meanings of the VAmeter unit's receive operations (44_vameter_decoder). -/

namespace Sys2Proof.Machine

/-! ### The registers of one quantity -/

/-- `VAM.v_zero` or `VAM.i_zero`. -/
def VamRegs.zeroOf (r : VamRegs) : Quantity → ℚ
  | .voltage => r.vZero
  | .current => r.iZero

/-- `VAM.v_gain` or `VAM.i_gain`. -/
def VamRegs.gainOf (r : VamRegs) : Quantity → ℚ
  | .voltage => r.vGain
  | .current => r.iGain

/-- `VAM.v_neg` or `VAM.i_neg`. -/
def VamRegs.negOf (r : VamRegs) : Quantity → Nat
  | .voltage => r.vNeg
  | .current => r.iNeg

/-- Write `VAM.v_neg` or `VAM.i_neg`. -/
def VamRegs.setNeg (r : VamRegs) (q : Quantity) (n : Nat) : VamRegs :=
  match q with
  | .voltage => { r with vNeg := n }
  | .current => { r with iNeg := n }

/-- `VAM_VSCALE[VAM.v_range]` or `VAM_ISCALE[VAM.i_range]` (44_vameter_decoder R246, R247). -/
def VamRegs.scaleOf (r : VamRegs) : Quantity → ScaleEntry
  | .voltage => .voltage r.vRange
  | .current => .current r.iRange

/-- `VAM.cal_v[VAM.v_range]` or `VAM.cal_i[VAM.i_range]` (44_vameter_decoder R246, R247). -/
def VamRegs.calOf (r : VamRegs) : Quantity → CalFactor
  | .voltage => r.calV[r.vRange]
  | .current => r.calI[r.iRange]

/-- The sample event of a quantity (60_exceptions R282). -/
def sampleEvent (q : Quantity) (p : Polarity) (x : EventNum) : VamEvent :=
  match q with
  | .voltage => .voltageSample p x
  | .current => .currentSample p x

/-! ### Finalisation (44_vameter_decoder R233, R243, R244) -/

/-- The mean of a closed reference run, the old reference when the run is empty (44_vameter_decoder R243, R249). -/
def referenceMean (r : VamRegs) (old : ℚ) : ℚ :=
  if 0 < r.count then r.sum / (r.count : ℚ) else old

/-- What a closed sample run reports: nothing when empty, else the sample or the error in its place
(44_vameter_decoder R244, R249, R250). -/
def reportSample (q : Quantity) (s : State) : State :=
  if 0 < s.vam.count then
    match vamMagnitude s.vam.sum s.vam.count (s.vam.scaleOf q) (s.vam.gainOf q) (s.vam.zeroOf q) (s.vam.calOf q) with
    | .value x => s.emitVam (sampleEvent q (polarity (s.vam.negOf q) s.vam.count) (numMagnitude x))
    | .divideByZero => s.raise .vamDivideByZero
  else s

/-- Finalisation of a sample command: report, then clear the quantity's negative counter (44_vameter_decoder R244). -/
def finaliseSample (q : Quantity) (s : State) : State :=
  (reportSample q s).setVam (s.vam.setNeg q 0)

/-- `finalise(VAM.cmd)` (44_vameter_decoder R233). -/
def finalise (s : State) : State :=
  match s.vam.cmd with
  | .none => s
  | .vRange => s
  | .iRange2A => s
  | .iRange600mA => s
  | .vZero => s.setVam { s.vam with vZero := referenceMean s.vam s.vam.vZero }
  | .vGain => s.setVam { s.vam with vGain := referenceMean s.vam s.vam.vGain }
  | .iZero => s.setVam { s.vam with iZero := referenceMean s.vam s.vam.iZero }
  | .iGain => s.setVam { s.vam with iGain := referenceMean s.vam s.vam.iGain }
  | .vSample => finaliseSample .voltage s
  | .iSample => finaliseSample .current s

/-- The run registers cleared by a control byte: `sum`, `count`, `latch_full` (44_vameter_decoder R232). -/
def clearRun (s : State) : State :=
  s.setVam { s.vam with sum := 0, count := 0, latchFull := false }

/-- The next command selected by a control byte, with `UnknownControl` raised when it is in no row
(44_vameter_decoder R232). -/
def selectCommand (b : Byte) (s : State) : State :=
  (if vamCmdOf b = .none then s.raise (.vamUnknownControl b) else s).setVam { s.vam with cmd := vamCmdOf b }

/-! ### The operations -/

/-- `VAM.CTRL`: finalise, then clear, then select (44_vameter_decoder R232). -/
def execVamCtrl (b : Byte) (s : State) : Host.Outcome State Fault Refusal :=
  .next (selectCommand b (clearRun (finalise s)))

/-- `VAM.VRANGE` (44_vameter_decoder R236, R238). -/
def execVamVrange (b : Byte) (s : State) : Host.Outcome State Fault Refusal :=
  match vRangeIndex b with
  | some idx =>
    .next
      ((if vRangeChanged s.vam idx then s.emitVam (.voltageRangeChanged idx (Config.vamVLabel idx)) else s).setVam
        { s.vam with vRange := idx, vRangeValid := true })
  | none => .next (s.raise (.vamInvalidRangeLetter b))

/-- `VAM.IRANGE` (44_vameter_decoder R237, R238). -/
def execVamIrange (hw : Bool) (b : Byte) (s : State) : Host.Outcome State Fault Refusal :=
  match iRangeIndex b with
  | some idx =>
    .next
      ((if iRangeChanged s.vam hw idx then
          s.emitVam (.currentRangeChanged hw idx (Config.vamILabel hw idx)) else s).setVam
        { s.vam with iRange := idx, hwSwitch := hw, iRangeValid := true })
  | none => .next (s.raise (.vamInvalidRangeLetter b))

/-- The first byte of a two-byte value is latched (44_vameter_decoder R239, R241). -/
def latchLow (b : Byte) (s : State) : State :=
  s.setVam { s.vam with sampleLow := b, latchFull := true }

/-- `VAM.REFLO` (44_vameter_decoder R239). -/
def execVamReflo (b : Byte) (s : State) : Host.Outcome State Fault Refusal :=
  .next (latchLow b s)

/-- The 10-bit value the second byte completes (44_vameter_decoder R240, R242). -/
def completedRaw (b : Byte) (s : State) : ℚ :=
  ((raw10 b s.vam.sampleLow).toNat : ℚ)

/-- `VAM.REFHI` (44_vameter_decoder R240). -/
def execVamRefhi (b : Byte) (s : State) : Host.Outcome State Fault Refusal :=
  .next
    (s.setVam
      { s.vam with sum := s.vam.sum + completedRaw b s, count := s.vam.count + 1, latchFull := false })

/-- `VAM.SMPLO` (44_vameter_decoder R241). -/
def execVamSmplo (b : Byte) (s : State) : Host.Outcome State Fault Refusal :=
  .next (latchLow b s)

/-- The deviation of the completed sample from the zero reference of its quantity (44_vameter_decoder R242). -/
def deviation (q : Quantity) (b : Byte) (s : State) : ℚ :=
  completedRaw b s - s.vam.zeroOf q

/-- The negative counter of the quantity after the completed sample (44_vameter_decoder R242). -/
def countNegative (q : Quantity) (b : Byte) (s : State) : Nat :=
  if isNegative (deviation q b s) then s.vam.negOf q + 1 else s.vam.negOf q

/-- `VAM.SMPHI` (44_vameter_decoder R242). -/
def execVamSmphi (q : Quantity) (b : Byte) (s : State) : Host.Outcome State Fault Refusal :=
  .next
    (s.setVam
      { s.vam.setNeg q (countNegative q b s) with
        sum := s.vam.sum + deviation q b s * deviation q b s
        count := s.vam.count + 1
        latchFull := false })

/-- `VAM.STRAY` (44_vameter_decoder R248). -/
def execVamStray (b : Byte) (s : State) : Host.Outcome State Fault Refusal :=
  .next (s.raise (.vamUnexpectedData b))

end Sys2Proof.Machine
end

