-- ==== Sys2Proof/Machine/Dispatch.lean ====
section
/-! DEFINITION. One arm per operation of the table, each one call of its meaning. -/

namespace Sys2Proof.Machine

/-- The meaning of an operation. -/
def exec (i : Instr) (s : State) : Host.Outcome State Fault Refusal :=
  match i with
  | .cntSent => Sys2Proof.Machine.execCntSent s
  | .cntLost b => Sys2Proof.Machine.execCntLost b s
  | .cntRange b => Sys2Proof.Machine.execCntRange b s
  | .cntNib n b => Sys2Proof.Machine.execCntNib n b s
  | .cntNib5 b => Sys2Proof.Machine.execCntNib5 b s
  | .cntSetMode m => Sys2Proof.Machine.execCntSetMode m s
  | .cntSetTrigger level => Sys2Proof.Machine.execCntSetTrigger level s
  | .genMemld slot => Sys2Proof.Machine.execGenMemld slot s
  | .genAck => Sys2Proof.Machine.execGenAck s
  | .genPkt => Sys2Proof.Machine.execGenPkt s
  | .genLost b => Sys2Proof.Machine.execGenLost b s
  | .genData b => Sys2Proof.Machine.execGenData b s
  | .genLast b => Sys2Proof.Machine.execGenLast b s
  | .genSave slot => Sys2Proof.Machine.execGenSave slot s
  | .genLoad slot => Sys2Proof.Machine.execGenLoad slot s
  | .genSetWave wave => Sys2Proof.Machine.execGenSetWave wave s
  | .genSetFilter f => Sys2Proof.Machine.execGenSetFilter f s
  | .genSetAmplitude a => Sys2Proof.Machine.execGenSetAmplitude a s
  | .genSetOffset o => Sys2Proof.Machine.execGenSetOffset o s
  | .genSetFrequency f => Sys2Proof.Machine.execGenSetFrequency f s
  | .genRequestState => Sys2Proof.Machine.execGenRequestState s
  | .genSetFreqHz hz wave => Sys2Proof.Machine.execGenSetFreqHz hz wave s
  | .vamCtrl b => Sys2Proof.Machine.execVamCtrl b s
  | .vamVrange b => Sys2Proof.Machine.execVamVrange b s
  | .vamIrange hw b => Sys2Proof.Machine.execVamIrange hw b s
  | .vamReflo b => Sys2Proof.Machine.execVamReflo b s
  | .vamRefhi b => Sys2Proof.Machine.execVamRefhi b s
  | .vamSmplo b => Sys2Proof.Machine.execVamSmplo b s
  | .vamSmphi q b => Sys2Proof.Machine.execVamSmphi q b s
  | .vamStray b => Sys2Proof.Machine.execVamStray b s
  | .vamCalLoad src => Sys2Proof.Machine.execVamCalLoad src s
  | .vamCalUnload => Sys2Proof.Machine.execVamCalUnload s
  | .reset u => Sys2Proof.Machine.execReset u s

end Sys2Proof.Machine
end

