-- ==== Sys2Proof/Machine/Step.lean ====
section
/-! DEFINITION. One step of the machine: take the first strobe the outside delivers, decode it against the sequencing
state, execute the operation. -/

namespace Sys2Proof.Machine

/-- One step of the block on one strobe: `RxStep`, `CmdStep`, `HostStep` or `Reset` (00_scope R13). -/
def inputStep (x : Input) (s : State) : Host.Outcome State Fault Refusal :=
  exec (decode s.seq x) s

/-- One step of an instance that holds the given units (00_scope R3; the parameter "units present" of R10). With no
strobe to take, nothing happens (20_memory R71, 60_exceptions R305; log 1); a unit the instance does not hold has no port
to be strobed on (log 12). -/
def stepWith (units : List UnitId) (s : State) : Host.Outcome State Fault Refusal :=
  match s.inputs with
  | [] => .next s
  | x :: rest =>
    if inputUnit x ∈ units then inputStep x (s.setInputs rest) else .refused (.unitAbsent (inputUnit x))

/-- One step of the machine: the instance that holds all three units, the decided default (92 D1). -/
def step (s : State) : Host.Outcome State Fault Refusal :=
  stepWith Config.unitsPresent s

/-- `feed(bytes)` on a unit: one `RxStep` per byte, in order (00_scope R13, 30_encoding R132). -/
def feed (u : UnitId) : List Byte → State → Host.Outcome State Fault Refusal
  | [], s => .next s
  | b :: bs, s =>
    match inputStep (.rx u b) s with
    | .next s' => feed u bs s'
    | .fault r => .fault r
    | .refused r => .refused r

/-- A state in which the unit's sequencing registers select the given operation; for a command, the state itself. -/
def State.selecting (s : State) : Instr → State
  | .cntSent => s.setCnt { s.cnt with stage := .awaitSentinel }
  | .cntLost _ => s.setCnt { s.cnt with stage := .awaitSentinel }
  | .cntRange _ => s.setCnt { s.cnt with stage := .awaitRange }
  | .cntNib n _ => s.setCnt { s.cnt with stage := .collectingNibble n.castSucc }
  | .cntNib5 _ => s.setCnt { s.cnt with stage := .collectingNibble 5 }
  | .cntSetMode _ => s
  | .cntSetTrigger _ => s
  | .genMemld _ => s.setGen { s.gen with awaiting := false }
  | .genAck => s.setGen { s.gen with awaiting := false }
  | .genPkt => s.setGen { s.gen with awaiting := false }
  | .genLost _ => s.setGen { s.gen with awaiting := false }
  | .genData _ => s.setGen { s.gen with awaiting := true, rxlen := 1#4 }
  | .genLast _ => s.setGen { s.gen with awaiting := true, rxlen := 9#4 }
  | .genSave _ => s
  | .genLoad _ => s
  | .genSetWave _ => s
  | .genSetFilter _ => s
  | .genSetAmplitude _ => s
  | .genSetOffset _ => s
  | .genSetFrequency _ => s
  | .genRequestState => s
  | .genSetFreqHz _ _ => s
  | .vamCtrl _ => s
  | .vamVrange _ => s.setVam { s.vam with cmd := .vRange }
  | .vamIrange hw _ => s.setVam { s.vam with cmd := if hw then .iRange600mA else .iRange2A }
  | .vamReflo _ => s.setVam { s.vam with cmd := .vZero, latchFull := false }
  | .vamRefhi _ => s.setVam { s.vam with cmd := .vZero, latchFull := true }
  | .vamSmplo _ => s.setVam { s.vam with cmd := .vSample, latchFull := false }
  | .vamSmphi q _ =>
    s.setVam { s.vam with cmd := match q with | .voltage => .vSample | .current => .iSample, latchFull := true }
  | .vamStray _ => s.setVam { s.vam with cmd := .none }
  | .vamCalLoad _ => s
  | .vamCalUnload => s
  | .reset _ => s

/-- `s` with the operation of the opcode-table word `w` as the next strobe, and the sequencing registers of its unit
set so that the strobe selects it (log 2, 3); `s` itself for a word of no operation. -/
def State.withFetchWord (s : State) (nbits w : Nat) : State :=
  match decodeTableWord nbits w with
  | some i => (s.selecting i).setInputs (i.toInput :: s.inputs)
  | none => s

end Sys2Proof.Machine
end

