-- ==== Sys2Proof/Machine/Codes.lean ====
section
/-! DEFINITION. The numbers the spec gives to stages, commands, waves, filters, events, reasons, statuses and
polarities, and the class of each error. -/

namespace Sys2Proof.Machine

/-- `CNT.stage` as a 3-bit register (10_state R23). -/
def stageCode : CntStage → BitVec 3
  | .awaitSentinel => 0#3
  | .awaitRange => 1#3
  | .collectingNibble n => BitVec.ofNat 3 (2 + n.val)

/-- `VAM.cmd` as a 4-bit register (10_state R25). -/
def vamCmdCode : VamCmd → BitVec 4
  | .none => 0#4
  | .vRange => 1#4
  | .vZero => 2#4
  | .vGain => 3#4
  | .vSample => 4#4
  | .iRange2A => 5#4
  | .iRange600mA => 6#4
  | .iZero => 7#4
  | .iGain => 8#4
  | .iSample => 9#4

/-- Wave codes (30_encoding R113). -/
def waveCode : Wave → BitVec 3
  | .unknown => 0#3
  | .sine => 1#3
  | .triangle => 2#3
  | .sawtooth => 3#3
  | .square => 4#3
  | .bwVideo => 5#3
  | .serial => 6#3
  | .serialInverted => 7#3

/-- Filter codes (30_encoding R114). -/
def filterCode : OutFilter → BitVec 3
  | .none => 0#3
  | .f100kHz => 1#3
  | .f8kHz => 2#3
  | .f600Hz => 3#3
  | .unknown => 4#3

/-- Counter event codes (60_exceptions R280). -/
def cntEventCode : CntEvent → Byte
  | .rangeChanged _ => 0x01#8
  | .measurement _ => 0x02#8
  | .syncLost _ => 0x03#8
  | .decodeError _ => 0x04#8

/-- Generator event codes (60_exceptions R281). -/
def genEventCode : GenEvent → Byte
  | .memoryLoaded _ => 0x11#8
  | .acknowledged => 0x12#8
  | .stateUpdated _ _ _ _ _ _ => 0x13#8
  | .byteLost _ => 0x14#8

/-- VAmeter event codes (60_exceptions R282). -/
def vamEventCode : VamEvent → Byte
  | .voltageRangeChanged _ _ => 0x21#8
  | .currentRangeChanged _ _ _ => 0x22#8
  | .voltageSample _ _ => 0x23#8
  | .currentSample _ _ => 0x24#8
  | .decodeError _ _ => 0x25#8

/-- Polarity codes (60_exceptions R282). -/
def polarityCode : Polarity → Nat
  | .dcPositive => 0
  | .dcNegative => 1
  | .ac => 2

/-- Reason codes (60_exceptions R283). -/
def reasonCode : Reason → Nat
  | .divideByZero => 1
  | .invalidRangeLetter => 2
  | .unexpectedData => 3
  | .unknownControl => 4

/-- Status codes (60_exceptions R284). -/
def statusCode : Status → Nat
  | .ok => 0
  | .invalidArgument => 1
  | .unsupported => 2
  | .calSourceUnavailable => 3
  | .calTooFewNumbers => 4

/-- The error classes of the source's taxonomy (60_exceptions R285). The block never raises `transportError` (R287). -/
inductive ErrorClass where
  | synchronizationLoss
  | protocolViolation
  | transportError
  | calibrationFormatError
deriving DecidableEq, Repr

/-- The class of an error a receive step raises (60_exceptions R280, R281, R283, R285). -/
def errorClass : UnitError → ErrorClass
  | .cntSyncLost _ => .synchronizationLoss
  | .cntDivideByZero => .protocolViolation
  | .genByteLost _ => .synchronizationLoss
  | .vamUnknownControl _ => .synchronizationLoss
  | .vamInvalidRangeLetter _ => .protocolViolation
  | .vamUnexpectedData _ => .synchronizationLoss
  | .vamDivideByZero => .protocolViolation

/-- The class of an error status; `InvalidArgument` and `Unsupported` have none (60_exceptions R285). -/
def statusClass : Status → Option ErrorClass
  | .ok => none
  | .invalidArgument => none
  | .unsupported => none
  | .calSourceUnavailable => some .calibrationFormatError
  | .calTooFewNumbers => some .calibrationFormatError

end Sys2Proof.Machine
end

