-- ==== Sys2Proof/Safety.lean ====
section
/-! DEFINITION. The invariants the spec lists (40_counter_decoder R151, 42_generator_decoder R184, 44_vameter_decoder
R251), and the terms in which claims speak of runs. -/

namespace Sys2Proof.Machine

/-- Between steps, for the counter unit (40_counter_decoder R151 (a), (b), (c)): outside a value the accumulator is 0;
in `CollectingNibble(n)` it is below `16^n` and a range byte is stored. -/
def CntInv (r : CntRegs) : Prop :=
  match r.stage with
  | .awaitSentinel => r.acc = 0#24
  | .awaitRange => r.acc = 0#24
  | .collectingNibble n => r.acc.toNat < 16 ^ n.val ∧ r.rangeValid = true

/-- Between steps, for the generator unit (42_generator_decoder R184 (a), (b), (c)). -/
def GenInv (r : GenRegs) : Prop :=
  r.rxlen.toNat ≤ 9 ∧ (r.awaiting = true ↔ 1 ≤ r.rxlen.toNat) ∧ (1 ≤ r.rxlen.toNat → r.rxbuf[0] = 0xD2#8)

/-- The reference commands (44_vameter_decoder R230). -/
def isReferenceCmd : VamCmd → Bool
  | .vZero | .vGain | .iZero | .iGain => true
  | .none | .vRange | .iRange2A | .iRange600mA | .vSample | .iSample => false

/-- The sample commands (44_vameter_decoder R230). -/
def isSampleCmd : VamCmd → Bool
  | .vSample | .iSample => true
  | .none | .vRange | .iRange2A | .iRange600mA | .vZero | .vGain | .iZero | .iGain => false

/-- A reference lies in `0 .. 1023`. -/
def inRawRange (x : ℚ) : Prop :=
  0 ≤ x ∧ x ≤ 1023

/-- Between steps, for the VAmeter unit (44_vameter_decoder R251 (a) to (e)). The last field is not listed there: it is
what makes (d) survive the closing of a reference run. -/
structure VamInv (r : VamRegs) : Prop where
  latch : r.latchFull = true → isReferenceCmd r.cmd = true ∨ isSampleCmd r.cmd = true
  idle : isReferenceCmd r.cmd = false → isSampleCmd r.cmd = false → r.sum = 0 ∧ r.count = 0
  vNegBound : r.cmd = .vSample → r.vNeg ≤ r.count
  iNegBound : r.cmd = .iSample → r.iNeg ≤ r.count
  vNegZero : r.cmd ≠ .vSample → r.vNeg = 0
  iNegZero : r.cmd ≠ .iSample → r.iNeg = 0
  vZero : inRawRange r.vZero
  vGain : inRawRange r.vGain
  iZero : inRawRange r.iZero
  iGain : inRawRange r.iGain
  sum : 0 ≤ r.sum
  refSum : isReferenceCmd r.cmd = true → r.sum ≤ 1023 * r.count

/-- The invariant of the whole machine. -/
structure Inv (s : State) : Prop where
  cnt : CntInv s.cnt
  gen : GenInv s.gen
  vam : VamInv s.vam

/-- The six configuration registers of the generator unit (10_state R31 to R33). -/
def configOf (r : GenRegs) : Wave × OutFilter × Byte × Byte × BitVec 24 × BitVec 3 :=
  (r.wave, r.filter, r.amplitude, r.offset, r.frequency, r.memorySlot)

/-- The twelve calibration registers (10_state R42). -/
def calibrationOf (r : VamRegs) : Vector CalFactor 8 × Vector CalFactor 4 :=
  (r.calV, r.calI)

/-- The registers of the three units, without the streams. -/
def registersOf (s : State) : CntRegs × GenRegs × VamRegs :=
  (s.cnt, s.gen, s.vam)

/-- The number of events on the three event streams together. -/
def eventCount (s : State) : Nat :=
  s.cntEv.length + s.genEv.length + s.vamEv.length

/-- The number of bytes on the two transmit streams together. -/
def sentCount (s : State) : Nat :=
  s.cntTx.length + s.genTx.length

/-- The two data bytes that carry a 10-bit value: `v & 0x3F`, then `(v >> 6) & 0x0F` (30_encoding R112,
95_test_vectors 2.5). -/
def valueBytes (v : BitVec 10) : List Byte :=
  [0x00#2 ++ v.extractLsb' 0 6, 0x0#4 ++ v.extractLsb' 6 4]

/-- The data bytes of a run of 10-bit values. -/
def runBytes (vs : List (BitVec 10)) : List Byte :=
  vs.flatMap valueBytes

end Sys2Proof.Machine
end

