-- ==== Sys2Proof/Certificates/Slice0/Obligations.lean ====
section
/-! DEFINITION. The statements for the provers. Those about one operation give the whole next state, so each is a result,
a frame and a completion at once: a field that is not named is unchanged. -/

open Sys2Proof Sys2Proof.Machine Host

/-! ### Reset, step, dispatch -/

/-- Every value that 10_state R47 states for reset stands in `State.reset`. -/
def Obligations.ResetHoldsSpecifiedValues : Prop :=
  (State.reset.cnt.stage = .awaitSentinel ∧ State.reset.cnt.acc = 0#24 ∧ State.reset.cnt.rangeValid = false) ∧
  (State.reset.gen.awaiting = false ∧ State.reset.gen.rxlen = 0#4 ∧ State.reset.gen.wave = .unknown ∧
    State.reset.gen.filter = .unknown ∧ State.reset.gen.amplitude = 0#8 ∧ State.reset.gen.offset = 0#8 ∧
    State.reset.gen.frequency = 0#24 ∧ State.reset.gen.memorySlot = 0#3) ∧
  (State.reset.vam.cmd = .none ∧ State.reset.vam.latchFull = false ∧ State.reset.vam.sum = 0 ∧
    State.reset.vam.count = 0 ∧ State.reset.vam.vNeg = 0 ∧ State.reset.vam.iNeg = 0 ∧ State.reset.vam.vZero = 0 ∧
    State.reset.vam.vGain = 0 ∧ State.reset.vam.iZero = 0 ∧ State.reset.vam.iGain = 0 ∧ State.reset.vam.vRange = 0 ∧
    State.reset.vam.iRange = 0 ∧ State.reset.vam.vRangeValid = false ∧ State.reset.vam.iRangeValid = false ∧
    State.reset.vam.hwSwitch = false ∧ (∀ k : Fin 8, State.reset.vam.calV[k] = 1000) ∧
    (∀ k : Fin 4, State.reset.vam.calI[k] = 1000))

/-- A step takes the first strobe, decodes it in the present sequencing state to a well-formed operation and executes
that; with no strobe nothing happens (the latter is the model's choice, log 1). The same for an instance that holds any
units (00_scope R3, R10), in which a strobe for a unit it does not hold is refused (the model's choice, log 12); the
machine is the instance with all three. -/
def Obligations.StepRunsSelectedOperation : Prop :=
  (∀ (s : State) (x : Input) (rest : List Input), s.inputs = x :: rest →
    (decode s.seq x).wf = true ∧ step s = exec (decode s.seq x) { s with inputs := rest } ∧
    ∀ units : List UnitId,
      (inputUnit x ∈ units → stepWith units s = exec (decode s.seq x) { s with inputs := rest }) ∧
      (inputUnit x ∉ units → stepWith units s = .refused (.unitAbsent (inputUnit x)))) ∧
  ∀ (s : State) (units : List UnitId), s.inputs = [] → step s = .next s ∧ stepWith units s = .next s

/-- 40_counter_decoder R140. -/
def Obligations.CounterDispatch : Prop :=
  ∀ (q : SeqState) (b : Byte),
    (q.cntStage = .awaitSentinel → b = 0xC9#8 → decodeRx q .cnt b = .cntSent) ∧
    (q.cntStage = .awaitSentinel → b ≠ 0xC9#8 → decodeRx q .cnt b = .cntLost b) ∧
    (q.cntStage = .awaitRange → decodeRx q .cnt b = .cntRange b) ∧
    (∀ n : Fin 5, q.cntStage = .collectingNibble n.castSucc → decodeRx q .cnt b = .cntNib n b) ∧
    (q.cntStage = .collectingNibble 5 → decodeRx q .cnt b = .cntNib5 b)

/-- 42_generator_decoder R178. -/
def Obligations.GeneratorDispatch : Prop :=
  ∀ (q : SeqState) (b : Byte),
    (q.genAwaiting = false → 0x30 ≤ b.toNat → b.toNat ≤ 0x37 →
      decodeRx q .gen b = .genMemld (BitVec.ofNat 3 (b.toNat - 0x30))) ∧
    (q.genAwaiting = false → b = 0xD3#8 → decodeRx q .gen b = .genAck) ∧
    (q.genAwaiting = false → b = 0xD2#8 → decodeRx q .gen b = .genPkt) ∧
    (q.genAwaiting = false → ¬(0x30 ≤ b.toNat ∧ b.toNat ≤ 0x37) → b ≠ 0xD3#8 → b ≠ 0xD2#8 →
      decodeRx q .gen b = .genLost b) ∧
    (q.genAwaiting = true → q.genRxlen.toNat < 9 → decodeRx q .gen b = .genData b) ∧
    (q.genAwaiting = true → 9 ≤ q.genRxlen.toNat → decodeRx q .gen b = .genLast b)

/-- 44_vameter_decoder R230. -/
def Obligations.VameterDispatch : Prop :=
  ∀ (q : SeqState) (b : Byte),
    (0x80 ≤ b.toNat → decodeRx q .vam b = .vamCtrl b) ∧
    (b.toNat < 0x80 →
      (q.vamCmd = .vRange → decodeRx q .vam b = .vamVrange b) ∧
      (q.vamCmd = .iRange2A → decodeRx q .vam b = .vamIrange false b) ∧
      (q.vamCmd = .iRange600mA → decodeRx q .vam b = .vamIrange true b) ∧
      (q.vamCmd ∈ [.vZero, .vGain, .iZero, .iGain] → q.vamLatchFull = false → decodeRx q .vam b = .vamReflo b) ∧
      (q.vamCmd ∈ [.vZero, .vGain, .iZero, .iGain] → q.vamLatchFull = true → decodeRx q .vam b = .vamRefhi b) ∧
      (q.vamCmd ∈ [.vSample, .iSample] → q.vamLatchFull = false → decodeRx q .vam b = .vamSmplo b) ∧
      (q.vamCmd = .vSample → q.vamLatchFull = true → decodeRx q .vam b = .vamSmphi .voltage b) ∧
      (q.vamCmd = .iSample → q.vamLatchFull = true → decodeRx q .vam b = .vamSmphi .current b) ∧
      (q.vamCmd = .none → decodeRx q .vam b = .vamStray b))

/-- A few words written out from 30_encoding R102, R103, R106, R107, the first in the stage that R140 asks for. That the
byte `9B` reads as a trigger, and not as a mode byte that happens to equal it, is the model's choice (log 19): the mode
bytes are OPEN, and the trigger pattern is tried first. -/
def Obligations.WrittenOutWordsDecode : Prop :=
  decodeRx SeqState.reset .cnt 0b11001001#8 = .cntSent ∧
  decodeRx SeqState.reset .gen 0b00110010#8 = .genMemld 2#3 ∧
  decodeTx .gen [0b01100011#8] = .ok (.genSave 3#8) ∧
  decodeTx .gen [0b01000110#8, 0b00000010#8] = .ok (.genSetFilter 2#8) ∧
  decodeTx .gen [0b01010011#8, 0b00000000#8, 0b00011101#8, 0b01111110#8] = .ok (.genSetFrequency 7550#32) ∧
  decodeTx .cnt [0b10011011#8] = .ok (.cntSetTrigger (BitVec.ofInt 32 (-5)))

/-! ### Counter unit -/

/-- 40_counter_decoder R142. -/
def Obligations.CntSentinelOpensFrame : Prop :=
  ∀ s : State,
    (s.cnt.stage = .awaitSentinel → decode s.seq (.rx .cnt 0xC9#8) = .cntSent) ∧
    exec .cntSent s = .next { s with cnt := { s.cnt with stage := .awaitRange } } ∧
    (CntInv s.cnt → s.cnt.stage = .awaitSentinel → s.cnt.acc = 0#24) ∧
    (s.cnt.stage = .awaitRange → decode s.seq (.rx .cnt 0xC9#8) = .cntRange 0xC9#8)

/-- 40_counter_decoder R143; the class is that of 60_exceptions R280. -/
def Obligations.CntLostReportsByte : Prop :=
  ∀ (s : State) (b : Byte),
    (s.cnt.stage = .awaitSentinel → b ≠ 0xC9#8 → decode s.seq (.rx .cnt b) = .cntLost b) ∧
    exec (.cntLost b) s =
      .next
        { s with
          cnt := { s.cnt with acc := 0#24, stage := .awaitSentinel }
          cntOut := s.cntOut ++ [.ev (.syncLost b)] } ∧
    errorClass (.cntSyncLost b) = .synchronizationLoss

/-- 40_counter_decoder R144. -/
def Obligations.CntRangeStoresAndReportsChange : Prop :=
  ∀ (s : State) (b : Byte),
    (s.cnt.stage = .awaitRange → decode s.seq (.rx .cnt b) = .cntRange b) ∧
    exec (.cntRange b) s =
      .next
        { s with
          cnt := { s.cnt with range := b, rangeValid := true, stage := .collectingNibble 0 }
          cntOut :=
            s.cntOut ++ if s.cnt.rangeValid = false ∨ b ≠ s.cnt.range then [.ev (.rangeChanged b)] else [] }

/-- 40_counter_decoder R146; the or equals an addition where the positions are clear. -/
def Obligations.CntNibbleAccumulates : Prop :=
  ∀ (s : State) (n : Fin 5) (b : Byte),
    (s.cnt.stage = .collectingNibble n.castSucc → decode s.seq (.rx .cnt b) = .cntNib n b) ∧
    ∃ a : BitVec 24,
      exec (.cntNib n b) s = .next { s with cnt := { s.cnt with acc := a, stage := .collectingNibble n.succ } } ∧
      a = s.cnt.acc ||| BitVec.ofNat 24 (b.toNat % 16 * 2 ^ (4 * n.val)) ∧
      (s.cnt.acc.toNat < 16 ^ n.val → a.toNat = s.cnt.acc.toNat + b.toNat % 16 * 16 ^ n.val)

/-- 40_counter_decoder R147 with the formulas of R141, R149, R150. -/
def Obligations.CntSixthNibbleConverts : Prop :=
  ∀ (s : State) (b : Byte) (val : BitVec 24),
    val = s.cnt.acc ||| BitVec.ofNat 24 (b.toNat % 16 * 2 ^ 20) →
    (s.cnt.stage = .collectingNibble 5 → decode s.seq (.rx .cnt b) = .cntNib5 b) ∧
    exec (.cntNib5 b) s =
      .next
        { s with
          cnt := { s.cnt with acc := 0#24, stage := .awaitSentinel }
          cntOut :=
            s.cntOut ++
              if s.cnt.range = 0x41#8 then [.ev (.measurement (num (256 * (val.toNat : ℚ))))]
              else if s.cnt.range = 0x42#8 then [.ev (.measurement (num (2 * (val.toNat : ℚ))))]
              else if s.cnt.range = 0x43#8 then
                if val.toNat = 0 then [.ev (.decodeError .divideByZero)]
                else [.ev (.measurement (num (2000000 / (val.toNat : ℚ))))]
              else if s.cnt.range = 0x61#8 then [.ev (.measurement (num (128 * (val.toNat : ℚ) / 5)))]
              else if s.cnt.range = 0x62#8 then [.ev (.measurement (num ((val.toNat : ℚ) / 5)))]
              else [] } ∧
    errorClass .cntDivideByZero = .protocolViolation

/-- 41_counter_encoder R160, R161. -/
def Obligations.CounterCommandsSend : Prop :=
  ∀ s : State,
    (∀ (m : Byte) (k : Fin 3), m.toNat = k.val →
      exec (.cntSetMode m) s =
        .next { s with cntOut := s.cntOut ++ [.tx (Config.cntModeByte k), .ret .ok] }) ∧
    (∀ m : Byte, 2 < m.toNat →
      exec (.cntSetMode m) s =
        .next { s with cntOut := s.cntOut ++ [.ret .invalidArgument] }) ∧
    ∀ level : BitVec 32,
      exec (.cntSetTrigger level) s =
        .next
          { s with
            cntOut :=
              s.cntOut ++
                [.tx (if level.toInt ≤ -31 then 0x81#8 else if 31 ≤ level.toInt then 0xBF#8
                  else BitVec.ofInt 8 (0xA0 + level.toInt)), .ret .ok] }

/-! ### Generator unit, receive -/

/-- 42_generator_decoder R170. -/
def Obligations.GenMemoryLoadedRequestsState : Prop :=
  ∀ (s : State) (slot : BitVec 3),
    (s.gen.awaiting = false → decode s.seq (.rx .gen (BitVec.ofNat 8 (0x30 + slot.toNat))) = .genMemld slot) ∧
    exec (.genMemld slot) s =
      .next { s with genOut := s.genOut ++ [.ev (.memoryLoaded slot), .tx 0x3F#8] }

/-- 42_generator_decoder R171, R177. -/
def Obligations.GenAckAndLostReported : Prop :=
  ∀ (s : State) (b : Byte),
    (s.gen.awaiting = false → decode s.seq (.rx .gen 0xD3#8) = .genAck) ∧
    exec .genAck s = .next { s with genOut := s.genOut ++ [.ev .acknowledged] } ∧
    (s.gen.awaiting = false → ¬(0x30 ≤ b.toNat ∧ b.toNat ≤ 0x37) → b ≠ 0xD2#8 → b ≠ 0xD3#8 →
      decode s.seq (.rx .gen b) = .genLost b) ∧
    exec (.genLost b) s = .next { s with genOut := s.genOut ++ [.ev (.byteLost b)] } ∧
    errorClass (.genByteLost b) = .synchronizationLoss

/-- 42_generator_decoder R172. -/
def Obligations.GenPacketOpens : Prop :=
  ∀ s : State,
    (s.gen.awaiting = false → decode s.seq (.rx .gen 0xD2#8) = .genPkt) ∧
    ∃ buf : Vector Byte 10,
      exec .genPkt s = .next { s with gen := { s.gen with rxbuf := buf, rxlen := 1#4, awaiting := true } } ∧
      ∀ i : Fin 10, buf[i] = if i.val = 0 then 0xD2#8 else s.gen.rxbuf[i]

/-- 42_generator_decoder R173. -/
def Obligations.GenPacketByteStored : Prop :=
  ∀ (s : State) (b : Byte), s.gen.awaiting = true → 1 ≤ s.gen.rxlen.toNat → s.gen.rxlen.toNat ≤ 8 →
    decode s.seq (.rx .gen b) = .genData b ∧
    ∃ buf : Vector Byte 10,
      exec (.genData b) s =
        .next { s with gen := { s.gen with rxbuf := buf, rxlen := BitVec.ofNat 4 (s.gen.rxlen.toNat + 1) } } ∧
      ∀ i : Fin 10, buf[i] = if i.val = s.gen.rxlen.toNat then b else s.gen.rxbuf[i]

/-- GEN.DATA, executed where R130 does not select it: below index 10 it writes, above there is no register to write and
the model faults (the model's choice, log 14, 17). -/
def Obligations.GenDataOutsidePacket : Prop :=
  ∀ (s : State) (b : Byte),
    (s.gen.rxlen.toNat < 10 → ∃ t, exec (.genData b) s = .next t) ∧
    (10 ≤ s.gen.rxlen.toNat → exec (.genData b) s = .fault .rxbufIndex)

/-- 42_generator_decoder R174, with the field conversions of R176, R180, R181, R183 and 30_encoding R110 written out. -/
def Obligations.GenPacketCompletes : Prop :=
  ∀ (s : State) (b : Byte) (w : Wave) (f : OutFilter) (raw24 : Nat) (raw : Int),
    (waveCode w).toNat = (if s.gen.rxbuf[1].toNat ≤ 7 then s.gen.rxbuf[1].toNat else 0) →
    (filterCode f).toNat = (if s.gen.rxbuf[7].toNat ≤ 3 then s.gen.rxbuf[7].toNat else 4) →
    raw24 = s.gen.rxbuf[2].toNat * 65536 + s.gen.rxbuf[3].toNat * 256 + s.gen.rxbuf[4].toNat →
    raw = (if raw24 < 8388608 then (raw24 : Int) else (raw24 : Int) - 16777216) →
    (s.gen.awaiting = true → s.gen.rxlen.toNat = 9 → decode s.seq (.rx .gen b) = .genLast b) ∧
    ∃ buf : Vector Byte 10,
      exec (.genLast b) s =
        .next
          { s with
            gen :=
              { awaiting := false, rxlen := 0#4, rxbuf := buf, wave := w, filter := f
                amplitude := s.gen.rxbuf[6], offset := s.gen.rxbuf[5], frequency := BitVec.ofNat 24 raw24
                memorySlot := BitVec.ofNat 3 (s.gen.rxbuf[8].toNat % 8) }
            genOut :=
              s.genOut ++
                [.ev (.stateUpdated w (frequencyToHertz raw w)
                  (num ((s.gen.rxbuf[6].toNat : ℚ) * (481 / 100) / 255))
                  (num (-((s.gen.rxbuf[6].toNat : ℚ) * (481 / 100) / 255 / 2))) f
                  (BitVec.ofNat 3 (s.gen.rxbuf[8].toNat % 8)))] } ∧
      ∀ i : Fin 10, buf[i] = if i.val = 9 then b else s.gen.rxbuf[i]

/-- 42_generator_decoder R179. -/
def Obligations.FrequencyToHertzFormulas : Prop :=
  ∀ raw : Int,
    frequencyToHertz raw .sine = .hertz (num ((raw : ℚ) * 20000000 / (16777216 * 9))) ∧
    frequencyToHertz raw .triangle = .hertz (num ((raw : ℚ) * 20000000 / (16777216 * 9))) ∧
    frequencyToHertz raw .sawtooth = .hertz (num ((raw : ℚ) * 20000000 / (16777216 * 6))) ∧
    frequencyToHertz raw .square = .hertz (num ((raw : ℚ) * 20000000 / (16777216 * 7))) ∧
    (∀ w ∈ [Wave.serial, .serialInverted],
      frequencyToHertz raw w =
        if ⌊(raw : ℚ) / 256⌋ = 0 then .absent else .period (num (200000000 / (⌊(raw : ℚ) / 256⌋ : ℚ)))) ∧
    frequencyToHertz raw .bwVideo = .absent ∧ frequencyToHertz raw .unknown = .absent

/-! ### Generator unit, transmit -/

/-- 43_generator_encoder R201, R202, R208. -/
def Obligations.GenOneByteCommandsSend : Prop :=
  ∀ (s : State) (slot : Byte),
    exec (.genSave slot) s =
      .next { s with genOut := s.genOut ++ [.tx (BitVec.ofNat 8 (0x60 + slot.toNat % 8)), .ret .ok] } ∧
    exec (.genLoad slot) s =
      .next { s with genOut := s.genOut ++ [.tx (BitVec.ofNat 8 (0x70 + slot.toNat % 8)), .ret .ok] } ∧
    exec .genRequestState s =
      .next { s with genOut := s.genOut ++ [.tx 0x3F#8, .ret .ok] }

/-- 43_generator_encoder R203. -/
def Obligations.GenSetWaveSkipsZero : Prop :=
  ∀ (s : State) (wave : Byte),
    exec (.genSetWave wave) s =
      .next
        { s with
          genOut :=
            s.genOut ++ (if wave.toNat = 0 then [] else [.tx (BitVec.ofNat 8 (0x30 + wave.toNat % 8))]) ++
              [.ret .ok] }

/-- 43_generator_encoder R204, R205, R206. -/
def Obligations.GenTwoByteCommandsSend : Prop :=
  ∀ (s : State) (x : Byte),
    exec (.genSetFilter x) s =
      .next { s with genOut := s.genOut ++ [.tx 0x46#8, .tx (BitVec.ofNat 8 (x.toNat % 4)), .ret .ok] } ∧
    exec (.genSetAmplitude x) s =
      .next { s with genOut := s.genOut ++ [.tx 0x56#8, .tx x, .ret .ok] } ∧
    exec (.genSetOffset x) s =
      .next { s with genOut := s.genOut ++ [.tx 0x4F#8, .tx x, .ret .ok] }

/-- 43_generator_encoder R207. -/
def Obligations.GenSetFrequencySendsThreeBytes : Prop :=
  ∀ (s : State) (f : BitVec 32),
    exec (.genSetFrequency f) s =
      .next
        { s with
          genOut :=
            s.genOut ++
              [.tx 0x53#8, .tx (BitVec.ofNat 8 (f.toNat / 65536)), .tx (BitVec.ofNat 8 (f.toNat / 256)),
                .tx (BitVec.ofNat 8 f.toNat), .ret .ok] }

/-- 43_generator_encoder R209, R210 for every REAL number of hertz, irrational or not, with the rounding of 00_scope R16.
The operand `q` that the instruction carries is the number itself where it is rational, or the rational it is issued as
(`realOperand`; that operands are data is the model's choice, log 10, and that the real is the operand in every number
format too, log 26). -/
def Obligations.GenSetFreqHzRoundsAndSends : Prop :=
  ∀ (s : State) (hz : ℝ) (q : ℚ) (w : Wave), (q : ℝ) = hz ∨ q = realOperand hz w →
    decodeCommand (.genSetFreqHzReal hz w) = .genSetFreqHz (realOperand hz w) w ∧
    (∀ k x : ℝ, (w, k) ∈ [(Wave.sine, (9 : ℝ)), (.triangle, 9), (.sawtooth, 6), (.square, 7)] →
      x = 16777216 * k * hz / 20000000 →
      ∃ r : Int, |x - r| ≤ 1 / 2 ∧ (|x - r| = 1 / 2 → |x| < |(r : ℝ)|) ∧
        exec (.genSetFreqHz q w) s =
          .next
            { s with
              genOut := s.genOut ++
                [.tx 0x53#8, .tx (BitVec.ofInt 8 (r / 65536)), .tx (BitVec.ofInt 8 (r / 256)), .tx (BitVec.ofInt 8 r),
                  .ret .ok] }) ∧
    (w ∈ [Wave.unknown, .bwVideo, .serial, .serialInverted] →
      exec (.genSetFreqHz q w) s = .next { s with genOut := s.genOut ++ [.ret .unsupported] })

/-! ### VAmeter unit -/

/-- 44_vameter_decoder R231: each of the nine parameters selects its command, every other byte selects none. -/
def Obligations.VamControlCodesSelect : Prop :=
  vamCmdOf Config.vamCcVRange = .vRange ∧ vamCmdOf Config.vamCcVZero = .vZero ∧
  vamCmdOf Config.vamCcVGain = .vGain ∧ vamCmdOf Config.vamCcVSample = .vSample ∧
  vamCmdOf Config.vamCcIRange2A = .iRange2A ∧ vamCmdOf Config.vamCcIRange600mA = .iRange600mA ∧
  vamCmdOf Config.vamCcIZero = .iZero ∧ vamCmdOf Config.vamCcIGain = .iGain ∧
  vamCmdOf Config.vamCcISample = .iSample ∧
  (∀ b ∈ [Config.vamCcVRange, Config.vamCcVZero, Config.vamCcVGain, Config.vamCcVSample, Config.vamCcIRange2A,
    Config.vamCcIRange600mA, Config.vamCcIZero, Config.vamCcIGain, Config.vamCcISample], 0x80 ≤ b.toNat) ∧
  ∀ b : Byte, b ∉ [Config.vamCcVRange, Config.vamCcVZero, Config.vamCcVGain, Config.vamCcVSample, Config.vamCcIRange2A,
    Config.vamCcIRange600mA, Config.vamCcIZero, Config.vamCcIGain, Config.vamCcISample] → vamCmdOf b = .none

/-- 44_vameter_decoder R232 where R233 finalises nothing: after reset, an unknown code or a range command. -/
def Obligations.VamCtrlAfterNoRun : Prop :=
  ∀ (s : State) (b : Byte), s.vam.cmd ∈ [VamCmd.none, .vRange, .iRange2A, .iRange600mA] →
    exec (.vamCtrl b) s =
      .next
        { s with
          vam := { s.vam with sum := 0, count := 0, latchFull := false, cmd := vamCmdOf b }
          vamOut := s.vamOut ++ if vamCmdOf b = .none then [.ev (.decodeError .unknownControl (some b))] else [] }

/-- 44_vameter_decoder R232 with R243 and R249: closing a reference run stores the mean, or keeps the old value. -/
def Obligations.VamCtrlClosesReference : Prop :=
  ∀ (s : State) (b : Byte) (out : List VamOut) (mean : ℚ → ℚ),
    out = s.vamOut ++ (if vamCmdOf b = .none then [.ev (.decodeError .unknownControl (some b))] else []) →
    mean = (fun old => if s.vam.count = 0 then old else s.vam.sum / (s.vam.count : ℚ)) →
    (s.vam.cmd = .vZero →
      exec (.vamCtrl b) s =
        .next
          { s with
            vam :=
              { s.vam with
                vZero := mean s.vam.vZero, sum := 0, count := 0, latchFull := false, cmd := vamCmdOf b }
            vamOut := out }) ∧
    (s.vam.cmd = .vGain →
      exec (.vamCtrl b) s =
        .next
          { s with
            vam :=
              { s.vam with
                vGain := mean s.vam.vGain, sum := 0, count := 0, latchFull := false, cmd := vamCmdOf b }
            vamOut := out }) ∧
    (s.vam.cmd = .iZero →
      exec (.vamCtrl b) s =
        .next
          { s with
            vam :=
              { s.vam with
                iZero := mean s.vam.iZero, sum := 0, count := 0, latchFull := false, cmd := vamCmdOf b }
            vamOut := out }) ∧
    (s.vam.cmd = .iGain →
      exec (.vamCtrl b) s =
        .next
          { s with
            vam :=
              { s.vam with
                iGain := mean s.vam.iGain, sum := 0, count := 0, latchFull := false, cmd := vamCmdOf b }
            vamOut := out })

/-- 44_vameter_decoder R232 with R244, R245, R246, R249, R250, voltage side. The value is kept as the pair of the rational
under the root and the scale entry, the model's form (log 11); what it reads as is R246's formula
(`Obligations.SampleValueIsMagnitude`). -/
def Obligations.VamCtrlClosesVoltageRun : Prop :=
  ∀ (s : State) (b : Byte), s.vam.cmd = .vSample →
    exec (.vamCtrl b) s =
      .next
        { s with
          vam := { s.vam with vNeg := 0, sum := 0, count := 0, latchFull := false, cmd := vamCmdOf b }
          vamOut :=
            s.vamOut ++
              (if s.vam.count = 0 then []
                else if s.vam.vGain = s.vam.vZero then [.ev (.decodeError .divideByZero none)]
                else
                  [.ev (.voltageSample
                    (if s.vam.vNeg ≤ 2 then .dcPositive
                      else if (s.vam.count : Int) - 2 < s.vam.vNeg then .dcNegative else .ac)
                    (numMagnitude
                      { radicand :=
                          s.vam.sum / (s.vam.count : ℚ) * ((s.vam.calV[s.vam.vRange].val : ℚ) / 1000) ^ 2 /
                            (s.vam.vGain - s.vam.vZero) ^ 2
                        scale := .voltage s.vam.vRange }))]) ++
              if vamCmdOf b = .none then [.ev (.decodeError .unknownControl (some b))] else [] }

/-- 44_vameter_decoder R232 with R244, R245, R246, R247, R249, R250, current side. The value is kept as the pair of the
rational under the root and the scale entry, the model's form (log 11). -/
def Obligations.VamCtrlClosesCurrentRun : Prop :=
  ∀ (s : State) (b : Byte), s.vam.cmd = .iSample →
    exec (.vamCtrl b) s =
      .next
        { s with
          vam := { s.vam with iNeg := 0, sum := 0, count := 0, latchFull := false, cmd := vamCmdOf b }
          vamOut :=
            s.vamOut ++
              (if s.vam.count = 0 then []
                else if s.vam.iGain = s.vam.iZero then [.ev (.decodeError .divideByZero none)]
                else
                  [.ev (.currentSample
                    (if s.vam.iNeg ≤ 2 then .dcPositive
                      else if (s.vam.count : Int) - 2 < s.vam.iNeg then .dcNegative else .ac)
                    (numMagnitude
                      { radicand :=
                          s.vam.sum / (s.vam.count : ℚ) * ((s.vam.calI[s.vam.iRange].val : ℚ) / 1000) ^ 2 /
                            (s.vam.iGain - s.vam.iZero) ^ 2
                        scale := .current s.vam.iRange }))]) ++
              if vamCmdOf b = .none then [.ev (.decodeError .unknownControl (some b))] else [] }

/-- 44_vameter_decoder R236, R238. -/
def Obligations.VamVoltageRangeLetter : Prop :=
  ∀ (s : State) (b : Byte),
    (b.toNat < 0x80 → s.vam.cmd = .vRange → decode s.seq (.rx .vam b) = .vamVrange b) ∧
    (∀ i : Fin 8, b.toNat = 0x41 + i.val →
      exec (.vamVrange b) s =
        .next
          { s with
            vam := { s.vam with vRange := i, vRangeValid := true }
            vamOut :=
              s.vamOut ++
                if s.vam.vRangeValid = false ∨ i ≠ s.vam.vRange then
                  [.ev (.voltageRangeChanged i (Config.vamVLabel i))]
                else [] }) ∧
    (b.toNat < 0x41 ∨ 0x48 < b.toNat →
      exec (.vamVrange b) s =
        .next { s with vamOut := s.vamOut ++ [.ev (.decodeError .invalidRangeLetter (some b))] }) ∧
    errorClass (.vamInvalidRangeLetter b) = .protocolViolation

/-- 44_vameter_decoder R237, R238. -/
def Obligations.VamCurrentRangeLetter : Prop :=
  ∀ (s : State) (hw : Bool) (b : Byte),
    (b.toNat < 0x80 → (s.vam.cmd = if hw then .iRange600mA else .iRange2A) →
      decode s.seq (.rx .vam b) = .vamIrange hw b) ∧
    (∀ i : Fin 4, b.toNat = 0x41 + i.val →
      exec (.vamIrange hw b) s =
        .next
          { s with
            vam := { s.vam with iRange := i, hwSwitch := hw, iRangeValid := true }
            vamOut :=
              s.vamOut ++
                if s.vam.iRangeValid = false ∨ i ≠ s.vam.iRange ∨ hw ≠ s.vam.hwSwitch then
                  [.ev (.currentRangeChanged hw i (Config.vamILabel hw i))]
                else [] }) ∧
    (b.toNat < 0x41 ∨ 0x44 < b.toNat →
      exec (.vamIrange hw b) s =
        .next { s with vamOut := s.vamOut ++ [.ev (.decodeError .invalidRangeLetter (some b))] }) ∧
    errorClass (.vamInvalidRangeLetter b) = .protocolViolation

/-- 44_vameter_decoder R239, R241. -/
def Obligations.VamFirstByteLatched : Prop :=
  ∀ (s : State) (b : Byte),
    (b.toNat < 0x80 → s.vam.cmd ∈ [VamCmd.vZero, .vGain, .iZero, .iGain] → s.vam.latchFull = false →
      decode s.seq (.rx .vam b) = .vamReflo b) ∧
    (b.toNat < 0x80 → s.vam.cmd ∈ [VamCmd.vSample, .iSample] → s.vam.latchFull = false →
      decode s.seq (.rx .vam b) = .vamSmplo b) ∧
    exec (.vamReflo b) s = .next { s with vam := { s.vam with sampleLow := b, latchFull := true } } ∧
    exec (.vamSmplo b) s = .next { s with vam := { s.vam with sampleLow := b, latchFull := true } }

/-- 44_vameter_decoder R240, the value assembled as 30_encoding R112 says. -/
def Obligations.VamReferenceValueAdded : Prop :=
  ∀ (s : State) (b : Byte),
    (b.toNat < 0x80 → s.vam.cmd ∈ [VamCmd.vZero, .vGain, .iZero, .iGain] → s.vam.latchFull = true →
      decode s.seq (.rx .vam b) = .vamRefhi b) ∧
    exec (.vamRefhi b) s =
      .next
        { s with
          vam :=
            { s.vam with
              sum := s.vam.sum + ((b.toNat % 16 * 64 + s.vam.sampleLow.toNat % 64 : Nat) : ℚ)
              count := s.vam.count + 1
              latchFull := false } }

/-- 44_vameter_decoder R242. -/
def Obligations.VamSampleDeviationSquared : Prop :=
  ∀ (s : State) (b : Byte) (raw : ℚ), raw = ((b.toNat % 16 * 64 + s.vam.sampleLow.toNat % 64 : Nat) : ℚ) →
    (b.toNat < 0x80 → s.vam.cmd = .vSample → s.vam.latchFull = true →
      decode s.seq (.rx .vam b) = .vamSmphi .voltage b) ∧
    (b.toNat < 0x80 → s.vam.cmd = .iSample → s.vam.latchFull = true →
      decode s.seq (.rx .vam b) = .vamSmphi .current b) ∧
    exec (.vamSmphi .voltage b) s =
      .next
        { s with
          vam :=
            { s.vam with
              vNeg := if raw < s.vam.vZero then s.vam.vNeg + 1 else s.vam.vNeg
              sum := s.vam.sum + (raw - s.vam.vZero) ^ 2
              count := s.vam.count + 1
              latchFull := false } } ∧
    exec (.vamSmphi .current b) s =
      .next
        { s with
          vam :=
            { s.vam with
              iNeg := if raw < s.vam.iZero then s.vam.iNeg + 1 else s.vam.iNeg
              sum := s.vam.sum + (raw - s.vam.iZero) ^ 2
              count := s.vam.count + 1
              latchFull := false } }

/-- 44_vameter_decoder R248. -/
def Obligations.VamStrayReportsByte : Prop :=
  ∀ (s : State) (b : Byte),
    (b.toNat < 0x80 → s.vam.cmd = .none → decode s.seq (.rx .vam b) = .vamStray b) ∧
    exec (.vamStray b) s =
      .next { s with vamOut := s.vamOut ++ [.ev (.decodeError .unexpectedData (some b))] } ∧
    errorClass (.vamUnexpectedData b) = .synchronizationLoss

/-- 44_vameter_decoder R246, R247 and 00_scope R16: whatever the number format, the number of a sample event reads as
`num` of the real number of the formula, and that of any other event as `num` of its rational; in the decided default
(92 D7) that is the real number itself. -/
def Obligations.SampleValueIsMagnitude : Prop :=
  (∀ (sum : ℚ) (count : Nat) (e : ScaleEntry) (gain zero : ℚ) (m : CalFactor), 0 < count →
    (gain = zero → vamMagnitude sum count e gain zero m = .divideByZero) ∧
    (gain ≠ zero → ∃ x : SampleValue, vamMagnitude sum count e gain zero m = .value x ∧
      ∀ F : NumberFormat,
        numValue F (numMagnitude x) =
          F.num
            (Real.sqrt ((sum : ℝ) / count) * scaleReal e / |(gain : ℝ) - zero| * ((m.val : ℝ) / 1000)))) ∧
  ∀ (F : NumberFormat) (x : ℚ), numValue F (num x) = F.num (x : ℝ) ∧ numValue Config.numberFormat (num x) = (x : ℝ)

/-! ### Host operations -/

/-- 45_vameter_calibration_host R270. -/
def Obligations.CalLoadAllOrNothing : Prop :=
  ∀ s : State,
    exec (.vamCalLoad .unavailable) s =
      .next { s with vamOut := s.vamOut ++ [.ret .calSourceUnavailable] } ∧
    (∀ l : List CalFactor, l.length < 12 →
      exec (.vamCalLoad (.numbers l)) s =
        .next { s with vamOut := s.vamOut ++ [.ret .calTooFewNumbers] }) ∧
    ∀ l : List CalFactor, 12 ≤ l.length →
      ∃ (cv : Vector CalFactor 8) (ci : Vector CalFactor 4),
        exec (.vamCalLoad (.numbers l)) s =
          .next
            { s with
              vam := { s.vam with calV := cv, calI := ci }
              vamOut := s.vamOut ++ [.ret .ok] } ∧
        (∀ k : Fin 8, l[k.val]? = some cv[k]) ∧ ∀ k : Fin 4, l[8 + k.val]? = some ci[k]

/-- 45_vameter_calibration_host R271; a second unload changes no register. -/
def Obligations.CalUnloadRestoresDefaults : Prop :=
  ∀ s : State, ∃ (cv : Vector CalFactor 8) (ci : Vector CalFactor 4),
    exec .vamCalUnload s =
      .next
        { s with
          vam := { s.vam with calV := cv, calI := ci }
          vamOut := s.vamOut ++ [.ret .ok] } ∧
    (∀ k : Fin 8, cv[k] = 1000) ∧ (∀ k : Fin 4, ci[k] = 1000) ∧
    ∀ t u : State, exec .vamCalUnload s = .next t → exec .vamCalUnload t = .next u → u.vam = t.vam

/-- 70_reset_and_hazards R320 with the values of 10_state R47: no event, no byte, no status, no other unit. The registers
R47 marks unspecified may hold anything, and `resets` is the model's own counter (log 8). -/
def Obligations.ResetOfOneUnit : Prop :=
  ∀ s : State,
    (∃ (range : Byte) (k : ResetCounts),
      exec (.reset .cnt) s =
        .next
          { s with
            cnt := { stage := .awaitSentinel, acc := 0#24, range := range, rangeValid := false }, resets := k }) ∧
    (∃ (buf : Vector Byte 10) (k : ResetCounts),
      exec (.reset .gen) s =
        .next
          { s with
            gen :=
              { awaiting := false, rxlen := 0#4, rxbuf := buf, wave := .unknown, filter := .unknown, amplitude := 0#8
                offset := 0#8, frequency := 0#24, memorySlot := 0#3 }
            resets := k }) ∧
    ∃ (low : Byte) (k : ResetCounts) (cv : Vector CalFactor 8) (ci : Vector CalFactor 4),
      exec (.reset .vam) s =
        .next
          { s with
            vam :=
              { cmd := .none, latchFull := false, sampleLow := low, sum := 0, count := 0, vNeg := 0, iNeg := 0
                vZero := 0, vGain := 0, iZero := 0, iGain := 0, vRange := 0, iRange := 0, vRangeValid := false
                iRangeValid := false, hwSwitch := false, calV := cv, calI := ci }
            resets := k } ∧
      (∀ k : Fin 8, cv[k] = 1000) ∧ ∀ k : Fin 4, ci[k] = 1000

/-! ### Rules over all operations -/

/-- 43_generator_encoder R200, 41_counter_encoder R162: a command completes, writes no register of any unit and emits no
event. -/
def Obligations.CommandsTouchNoRegister : Prop :=
  ∀ (i : Instr) (s : State), i.kind = .tx →
    ∃ t, exec i s = .next t ∧ registersOf t = registersOf s ∧ t.cntEv = s.cntEv ∧ t.genEv = s.genEv ∧
      t.vamOut = s.vamOut ∧ t.inputs = s.inputs ∧ t.resets = s.resets

/-- 10_state R34, R42, 42_generator_decoder R184 (d): only the two calibration operations and the reset of the unit write
the calibration registers; only GEN.LAST and the reset of the unit write the six configuration registers. -/
def Obligations.CalibrationAndConfigurationWriters : Prop :=
  ∀ (i : Instr) (s t : State), exec i s = .next t →
    (calibrationOf t.vam ≠ calibrationOf s.vam → (∃ src, i = .vamCalLoad src) ∨ i = .vamCalUnload ∨ i = .reset .vam) ∧
    (configOf t.gen ≠ configOf s.gen → (∃ b, i = .genLast b) ∨ i = .reset .gen)

/-- 60_exceptions R300: through a received byte the instrument cannot reach the calibration registers or another unit,
gets no status returned, and makes the block send at most the single `0x3F`, and that only on `GEN.tx`. -/
def Obligations.InstrumentIsConfined : Prop :=
  ∀ (u : UnitId) (b : Byte) (s : State), ∃ t, inputStep (.rx u b) s = .next t ∧
    calibrationOf t.vam = calibrationOf s.vam ∧
    (u ≠ .cnt → t.cnt = s.cnt ∧ t.cntOut = s.cntOut) ∧
    (u ≠ .gen → t.gen = s.gen ∧ t.genOut = s.genOut) ∧
    (u ≠ .vam → t.vam = s.vam ∧ t.vamOut = s.vamOut) ∧
    t.cntTx = s.cntTx ∧ (t.genTx = s.genTx ∨ t.genTx = s.genTx ++ [0x3F#8]) ∧
    t.cntRet = s.cntRet ∧ t.genRet = s.genRet ∧ t.vamRet = s.vamRet

/-- 60_exceptions R291: one step emits at most two events, and two only in VAM.CTRL with an unknown control byte while a
sample command with `count > 0` is active, the sample or `DivideByZero` first and `UnknownControl` last. A step that both
emits and sends is GEN.MEMLD, with the event before the byte (42_generator_decoder R170). -/
def Obligations.AtMostTwoEventsPerStep : Prop :=
  ∀ (i : Instr) (s t : State), exec i s = .next t →
    eventCount t ≤ eventCount s + 2 ∧
    (eventCount t = eventCount s + 2 →
      ∃ b e, i = .vamCtrl b ∧ vamCmdOf b = .none ∧ isSampleCmd s.vam.cmd = true ∧ 0 < s.vam.count ∧
        ((∃ p x, e = .voltageSample p x) ∨ (∃ p x, e = .currentSample p x) ∨ e = .decodeError .divideByZero none) ∧
        t.vamOut = s.vamOut ++ [.ev e, .ev (.decodeError .unknownControl (some b))]) ∧
    (eventCount s < eventCount t → sentCount s < sentCount t →
      ∃ slot, i = .genMemld slot ∧ t = { s with genOut := s.genOut ++ [.ev (.memoryLoaded slot), .tx 0x3F#8] })

/-- 30_encoding R131: in every sequencing state of the tables every byte selects one operation of its unit, that one in
its own context, with its own byte values and with no bit of the byte lost. -/
def Obligations.EveryByteSelectsOneOperation : Prop :=
  ∀ (q : SeqState) (u : UnitId) (b : Byte),
    (q.genAwaiting = true → 1 ≤ q.genRxlen.toNat ∧ q.genRxlen.toNat ≤ 9) →
    q.selects (decodeRx q u b) ∧ (decodeRx q u b).wf = true ∧ (decodeRx q u b).kind = .rx ∧
      (decodeRx q u b).unit = u ∧ encode (decodeRx q u b) = [b] ∧
      ∀ j : Instr, j.kind = .rx → j.unit = u → q.selects j → j.wf = true → encode j = [b] → j = decodeRx q u b

/-- 60_exceptions R294: in every state, whatever the outside delivers, the step is defined and the machine goes on; no
number of strobes stops it. The same for the step of an instance that holds the units strobed (00_scope R3, R10). -/
def Obligations.NoInputStopsTheMachine : Prop :=
  (∀ (s : State) (k : Nat), ∃ t, Sys2Proof.core.run k s = .next t) ∧
  ∀ (units : List UnitId) (s : State), (∀ x ∈ s.inputs, inputUnit x ∈ units) → ∃ t, stepWith units s = .next t

/-- 60_exceptions R293: a stream of garbage yields one error event per byte, in order, and changes no register. -/
def Obligations.NoiseReportedByteByByte : Prop :=
  ∀ (s : State) (bs : List Byte),
    (CntInv s.cnt → s.cnt.stage = .awaitSentinel → (∀ b ∈ bs, b ≠ 0xC9#8) →
      feed .cnt bs s = .next { s with cntOut := s.cntOut ++ bs.map fun b => .ev (.syncLost b) }) ∧
    (s.gen.awaiting = false → (∀ b ∈ bs, genKnown b = false) →
      feed .gen bs s = .next { s with genOut := s.genOut ++ bs.map fun b => .ev (.byteLost b) }) ∧
    (s.vam.cmd = .none → (∀ b ∈ bs, b.toNat < 0x80) →
      feed .vam bs s =
        .next { s with vamOut := s.vamOut ++ bs.map fun b => .ev (.decodeError .unexpectedData (some b)) })

/-- 20_memory R78: where a stream of bytes is cut into reads has no effect. -/
def Obligations.FeedIsChunkIndependent : Prop :=
  ∀ (u : UnitId) (as bs : List Byte) (s : State),
    ∃ m t, feed u as s = .next m ∧ feed u bs m = .next t ∧ feed u (as ++ bs) s = .next t ∧ feed u [] s = .next s

/-- A run of the machine on a unit's bytes is `feed` (00_scope R13), the strobes behind them still waiting. -/
def Obligations.RunConsumesBytesInOrder : Prop :=
  ∀ (u : UnitId) (bs : List Byte) (rest : List Input) (s : State), s.inputs = bs.map (.rx u) ++ rest →
    ∃ t, feed u bs { s with inputs := rest } = .next t ∧ t.inputs = rest ∧
      Sys2Proof.core.run bs.length s = .next t

/-- 10_state R21 (b), R46, 20_memory R71 to R73: no step reads a stream or looks ahead; it only appends, and what it does
to the registers and what it appends are the same whatever has been put out before and whatever waits. -/
def Obligations.StreamsAreOnlyAppendedTo : Prop :=
  ∀ (x : Input) (s : State),
    ∃ (t : State) (cs : List CntOut) (gs : List GenOut) (vs : List VamOut),
      ∀ (c : List CntOut) (g : List GenOut) (v : List VamOut) (l : List Input),
        inputStep x { s with cntOut := c, genOut := g, vamOut := v, inputs := l } =
          .next { t with cntOut := c ++ cs, genOut := g ++ gs, vamOut := v ++ vs, inputs := l }

/-- 30_encoding R106, R107, R120, 20_memory R72: a command puts on its unit's transmit stream exactly its encoding,
contiguously, then returns its status, and does nothing else. -/
def Obligations.CommandsSendTheirEncoding : Prop :=
  ∀ (i : Instr) (s : State), i.kind = .tx →
    ∃ (t : State) (st : Status), exec i s = .next t ∧
      (i.unit = .cnt → t = { s with cntOut := s.cntOut ++ (encode i).map .tx ++ [.ret st] }) ∧
      (i.unit = .gen → t = { s with genOut := s.genOut ++ (encode i).map .tx ++ [.ret st] }) ∧ i.unit ≠ .vam

/-- 30_encoding R110, R111: a signed frequency in the 24-bit range, sent by GEN.SET_FREQUENCY as its 32-bit two's
complement and received back in a packet's bytes 2 to 4, is read as itself. -/
def Obligations.SignedFrequencyRoundTrip : Prop :=
  ∀ (s : State) (v : Int), -8388608 ≤ v → v ≤ 8388607 →
    ∃ b2 b1 b0 : Byte,
      exec (.genSetFrequency (BitVec.ofInt 32 v)) s =
        .next { s with genOut := s.genOut ++ [.tx 0x53#8, .tx b2, .tx b1, .tx b0, .ret .ok] } ∧
      ∀ (s' t : State) (b : Byte), s'.gen.rxbuf[2] = b2 → s'.gen.rxbuf[3] = b1 → s'.gen.rxbuf[4] = b0 →
        exec (.genLast b) s' = .next t → t.gen.frequency.toInt = v

/-- 43_generator_encoder R209, the printed formula on the reals: on a rational operand the machine's conversion gives what
the formula gives, and for every real operand it gives, on the rational the real is issued as, what the formula gives on
the real (log 10). -/
def Obligations.HertzToRawAgreesWithReals : Prop :=
  ∀ w : Wave,
    (∀ hz : ℚ, hertzToRaw hz w = hertzToRawReal (hz : ℝ) w) ∧
    ∀ hz : ℝ, hertzToRaw (realOperand hz w) w = hertzToRawReal hz w

/-! ### Headline results -/

/-- 30_encoding R106, R107, R121: for every command whose operands the encoding carries whole (`Instr.encodable`: no bit
masked away, no clamp in action; not CNT.SET_MODE, whose bytes are OPEN, nor GEN.SET_FREQ_HZ, which has no encoding of its
own), decoding the bytes sent gives the command back, with every operand at every value. The transmit decoder is the
model's, in two points by its own choice (log 19): `30` reads as wave operand 8, and a counter byte is tried as a trigger
before a mode. -/
def Obligations.SentCommandsReadBack : Prop :=
  ∀ i : Instr, i.encodable = true → decodeTx i.unit (encode i) = .ok i

/-- 40_counter_decoder R151, 42_generator_decoder R184, 44_vameter_decoder R251: every step keeps the invariants. One field
of `VamInv`, the bound of the sum of a reference run, is the model's own addition, without which (d) is not kept (log 24). -/
def Obligations.StepKeepsInvariants : Prop :=
  ∀ s t : State, Inv s → step s = .next t → Inv t

/-- The invariants hold at reset. -/
def Obligations.ResetMeetsInvariants : Prop :=
  Inv State.reset

/-! ### Order of steps and whole runs -/

/-- 20_memory R89: steps of different units commute. -/
def Obligations.UnitsCommute : Prop :=
  ∀ (x y : Input) (s m t : State), inputUnit x ≠ inputUnit y →
    inputStep x s = .next m → inputStep y m = .next t →
    ∃ m', inputStep y s = .next m' ∧ inputStep x m' = .next t

/-- 30_encoding R102, R109, 40_counter_decoder R145, R148: a whole counter frame, from the sentinel, whatever its seven
other bytes: the six low nibbles, least significant first, are the value. `RangeChanged` (R144) comes before the result,
which is that of the formulas of R141 as R147 applies them. -/
def Obligations.CounterFrameDecodes : Prop :=
  ∀ (s : State) (r n0 n1 n2 n3 n4 n5 : Byte) (val : Nat),
    s.cnt.stage = .awaitSentinel → s.cnt.acc = 0#24 →
    val = n0.toNat % 16 + n1.toNat % 16 * 16 + n2.toNat % 16 * 256 + n3.toNat % 16 * 4096 + n4.toNat % 16 * 65536 +
      n5.toNat % 16 * 1048576 →
    feed .cnt [0xC9#8, r, n0, n1, n2, n3, n4, n5] s =
      .next
        { s with
          cnt := { stage := .awaitSentinel, acc := 0#24, range := r, rangeValid := true }
          cntOut :=
            s.cntOut ++ (if s.cnt.rangeValid = false ∨ r ≠ s.cnt.range then [.ev (.rangeChanged r)] else []) ++
              if r = 0x41#8 then [.ev (.measurement (num (256 * (val : ℚ))))]
              else if r = 0x42#8 then [.ev (.measurement (num (2 * (val : ℚ))))]
              else if r = 0x43#8 then
                if val = 0 then [.ev (.decodeError .divideByZero)]
                else [.ev (.measurement (num (2000000 / (val : ℚ))))]
              else if r = 0x61#8 then [.ev (.measurement (num (128 * (val : ℚ) / 5)))]
              else if r = 0x62#8 then [.ev (.measurement (num ((val : ℚ) / 5)))]
              else [] }

/-- 30_encoding R104, 20_memory R83, 42_generator_decoder R175: a whole state packet, whatever its nine bytes after the
sentinel: one event, the six configuration registers from their places in the map, the unit out of packet mode (R174),
with the field conversions of R176, R179, R180, R181, R183. -/
def Obligations.GeneratorPacketDecodes : Prop :=
  ∀ (s : State) (p1 p2 p3 p4 p5 p6 p7 p8 p9 : Byte), s.gen.awaiting = false →
    ∃ (t : State) (h : HertzOrPeriod),
      feed .gen [0xD2#8, p1, p2, p3, p4, p5, p6, p7, p8, p9] s = .next t ∧
      (waveCode t.gen.wave).toNat = (if p1.toNat ≤ 7 then p1.toNat else 0) ∧
      t.gen.frequency.toNat = p2.toNat * 65536 + p3.toNat * 256 + p4.toNat ∧
      t.gen.offset = p5 ∧ t.gen.amplitude = p6 ∧
      (filterCode t.gen.filter).toNat = (if p7.toNat ≤ 3 then p7.toNat else 4) ∧
      t.gen.memorySlot.toNat = p8.toNat % 8 ∧ t.gen.awaiting = false ∧ t.gen.rxlen = 0#4 ∧
      h = frequencyToHertz t.gen.frequency.toInt t.gen.wave ∧
      t = { s with
            gen := t.gen
            genOut :=
              s.genOut ++
                [.ev (.stateUpdated t.gen.wave h (num ((p6.toNat : ℚ) * (481 / 100) / 255))
                  (num (-((p6.toNat : ℚ) * (481 / 100) / 255 / 2))) t.gen.filter t.gen.memorySlot)] }

/-- 44_vameter_decoder R239, R240, R243: a reference run of any non-empty list of 10-bit values, closed by any control
byte, stores their mean in its own reference and nothing in the others. -/
def Obligations.ReferenceRunStoresMean : Prop :=
  ∀ (s : State) (vs : List (BitVec 10)) (b : Byte) (mean : ℚ),
    vs ≠ [] → 0x80 ≤ b.toNat → s.vam.latchFull = false → s.vam.sum = 0 → s.vam.count = 0 →
    mean = ((vs.map fun v => (v.toNat : ℚ)).sum) / (vs.length : ℚ) →
    isReferenceCmd s.vam.cmd = true →
    ∃ t, feed .vam (runBytes vs ++ [b]) s = .next t ∧
      t.vam.vZero = (if s.vam.cmd = .vZero then mean else s.vam.vZero) ∧
      t.vam.vGain = (if s.vam.cmd = .vGain then mean else s.vam.vGain) ∧
      t.vam.iZero = (if s.vam.cmd = .iZero then mean else s.vam.iZero) ∧
      t.vam.iGain = (if s.vam.cmd = .iGain then mean else s.vam.iGain) ∧
      t.vam.sum = 0 ∧ t.vam.count = 0 ∧ t.vam.latchFull = false ∧ t.vam.cmd = vamCmdOf b ∧
      t.vam.vNeg = s.vam.vNeg ∧ t.vam.iNeg = s.vam.iNeg ∧ t.vam.vRange = s.vam.vRange ∧
      t.vam.iRange = s.vam.iRange ∧ calibrationOf t.vam = calibrationOf s.vam ∧
      t.vamOut =
        s.vamOut ++ (if vamCmdOf b = .none then [.ev (.decodeError .unknownControl (some b))] else []) ∧
      t.cnt = s.cnt ∧ t.gen = s.gen ∧ t.cntOut = s.cntOut ∧ t.genOut = s.genOut

/-- 44_vameter_decoder R241, R242, R244 to R247: a sample run of any non-empty list of 10-bit values, voltage or current,
closed by any control byte with the references apart, emits one sample, with the polarity from the number of negative
deviations; its number reads as `num` of the root mean square of the deviations, scaled (00_scope R16). An unknown
closing byte is reported after the sample (R232). -/
def Obligations.SampleRunEmitsSample : Prop :=
  ∀ (s : State) (q : Quantity) (vs : List (BitVec 10)) (b : Byte) (neg : Nat) (zero gain : ℚ) (scale : ℝ)
    (m : CalFactor) (p : Polarity),
    (q = .voltage → s.vam.cmd = .vSample ∧ s.vam.vNeg = 0 ∧ zero = s.vam.vZero ∧ gain = s.vam.vGain ∧
      scale = Config.vamVScale s.vam.vRange ∧ m = s.vam.calV[s.vam.vRange]) →
    (q = .current → s.vam.cmd = .iSample ∧ s.vam.iNeg = 0 ∧ zero = s.vam.iZero ∧ gain = s.vam.iGain ∧
      scale = Config.vamIScale s.vam.iRange ∧ m = s.vam.calI[s.vam.iRange]) →
    vs ≠ [] → 0x80 ≤ b.toNat → s.vam.latchFull = false → s.vam.sum = 0 → s.vam.count = 0 → gain ≠ zero →
    neg = (vs.filter fun v => decide ((v.toNat : ℚ) < zero)).length →
    p = (if neg ≤ 2 then .dcPositive else if (vs.length : Int) - 2 < neg then .dcNegative else .ac) →
    ∃ (low : Byte) (x : EventNum),
      feed .vam (runBytes vs ++ [b]) s =
        .next
          { s with
            vam := { s.vam with sampleLow := low, cmd := vamCmdOf b }
            vamOut :=
              s.vamOut ++ [.ev (match q with | .voltage => .voltageSample p x | .current => .currentSample p x)] ++
                if vamCmdOf b = .none then [.ev (.decodeError .unknownControl (some b))] else [] } ∧
      ∀ F : NumberFormat,
        numValue F x =
          F.num
            (Real.sqrt ((vs.map fun v => ((v.toNat : ℝ) - zero) ^ 2).sum / vs.length) * scale /
              |(gain : ℝ) - zero| * ((m.val : ℝ) / 1000))
end

