-- ==== Sys2Proof/Laws/Config.lean ====
section
/-! SUPPORT. What is known of the OPEN control codes: bit 7 is set and they are pairwise distinct (92 D36). -/

namespace Sys2Proof

theorem controlByte_toNat : ∀ v : Fin 128, (0x80#8 ||| BitVec.ofNat 8 v.val).toNat = 128 + v.val := by
  decide

theorem vamCc_toNat (k : Fin 9) : (Config.vamCc k).toNat = 128 + (Config.vamCcChoice ⟨k.val, by omega⟩).val :=
  controlByte_toNat _

/-- Every control code has bit 7 set. -/
theorem vamCc_msb (k : Fin 9) : (Config.vamCc k).msb = true := by
  rw [BitVec.msb_eq_decide, decide_eq_true_iff, vamCc_toNat]
  simp

/-- The control codes are pairwise distinct. -/
theorem vamCc_inj {j k : Fin 9} : Config.vamCc j = Config.vamCc k ↔ j = k := by
  refine ⟨fun h => ?_, fun h => h ▸ rfl⟩
  have h' := congrArg BitVec.toNat h
  rw [vamCc_toNat, vamCc_toNat] at h'
  have hv : Config.vamCcChoice ⟨j.val, by omega⟩ = Config.vamCcChoice ⟨k.val, by omega⟩ := Fin.ext (by omega)
  have := congrArg Fin.val (Config.vamCcChoice.injective hv)
  exact Fin.ext this

end Sys2Proof
end

