-- ==== Sys2Proof/Laws/PerInstr.lean ====
section
/-! SUPPORT. Per operation: in every sequencing state whose context selects it, its input decodes to it (30_encoding
R130's "selected by" column is complete). -/

namespace Sys2Proof.Laws

theorem genMem_range : ∀ slot : BitVec 3,
    Config.genMemFirst ≤ 0b00110#5 ++ slot ∧ 0b00110#5 ++ slot ≤ Config.genMemLast ∧
      (0b00110#5 ++ slot : BitVec 8).setWidth 3 = slot := by
  decide

theorem decodeGen_memld (q : SeqState) (slot : BitVec 3) (h : q.genAwaiting = false) :
    decode q (.rx .gen (0b00110#5 ++ slot)) = .genMemld slot := by
  obtain ⟨h1, h2, h3⟩ := genMem_range slot
  simp only [decode, decodeRx, decodeGen, h, if_true]
  rw [if_pos ⟨h1, h2⟩, h3]

theorem decodeGen_lost (q : SeqState) (b : Byte) (h : q.genAwaiting = false) (w : (Instr.genLost b).wf = true) :
    decode q (.rx .gen b) = .genLost b := by
  simp only [Instr.wf, genKnown, Bool.not_eq_true', Bool.or_eq_false_iff, beq_eq_false_iff_ne] at w
  obtain ⟨⟨w1, w2⟩, w3⟩ := w
  have w1' : ¬(Config.genMemFirst ≤ b ∧ b ≤ Config.genMemLast) := by simpa using w1
  simp only [decode, decodeRx, decodeGen, h, if_true]
  rw [if_neg w1', if_neg w2, if_neg w3]

theorem rxlen_lt (x : BitVec 4) : x < 9#4 ↔ x.toNat < 9 := by
  rw [BitVec.lt_def]; simp

theorem decodeGen_data (q : SeqState) (b : Byte)
    (h : q.genAwaiting = true ∧ 1 ≤ q.genRxlen.toNat ∧ q.genRxlen.toNat ≤ 8) :
    decode q (.rx .gen b) = .genData b := by
  simp only [decode, decodeRx, decodeGen, h.1, Bool.true_eq_false, if_false]
  rw [if_pos ((rxlen_lt _).2 (by omega))]

theorem decodeGen_last (q : SeqState) (b : Byte) (h : q.genAwaiting = true ∧ q.genRxlen.toNat = 9) :
    decode q (.rx .gen b) = .genLast b := by
  simp only [decode, decodeRx, decodeGen, h.1, Bool.true_eq_false, if_false]
  rw [if_neg (fun e => by have := (rxlen_lt _).1 e; omega)]

namespace Selection

/-- Wherever the operation can be selected, its input selects it. -/
def Statement (i : Instr) : Prop :=
  ∀ q : SeqState, q.selects i → i.wf = true → decode q i.toInput = i

theorem cntSent : Statement (.cntSent) := by
  intro q h _; simp_all [SeqState.selects, decode, decodeRx, decodeCnt, Instr.toInput]

theorem cntLost (b : Byte) : Statement (.cntLost b) := by
  intro q h w; simp_all [SeqState.selects, Instr.wf, decode, decodeRx, decodeCnt, Instr.toInput]

theorem cntRange (b : Byte) : Statement (.cntRange b) := by
  intro q h _; simp_all [SeqState.selects, decode, decodeRx, decodeCnt, Instr.toInput]

theorem cntNib (n : Fin 5) (b : Byte) : Statement (.cntNib n b) := by
  intro q h _; simp_all [SeqState.selects, decode, decodeRx, decodeCnt, Instr.toInput]

theorem cntNib5 (b : Byte) : Statement (.cntNib5 b) := by
  intro q h _; simp_all [SeqState.selects, decode, decodeRx, decodeCnt, Instr.toInput]

theorem cntSetMode (m : Byte) : Statement (.cntSetMode m) := by
  exact fun _ _ _ => rfl

theorem cntSetTrigger (level : BitVec 32) : Statement (.cntSetTrigger level) := by
  exact fun _ _ _ => rfl

theorem genMemld (slot : BitVec 3) : Statement (.genMemld slot) := by
  intro q h _; exact decodeGen_memld q slot h

theorem genAck : Statement (.genAck) := by
  intro q h _; simp_all [SeqState.selects, decode, decodeRx, decodeGen, Instr.toInput]

theorem genPkt : Statement (.genPkt) := by
  intro q h _
  have h' : q.genAwaiting = false := h
  simp only [decode, decodeRx, decodeGen, Instr.toInput, h', if_true]
  decide

theorem genLost (b : Byte) : Statement (.genLost b) := by
  intro q h w; exact decodeGen_lost q b h w

theorem genData (b : Byte) : Statement (.genData b) := by
  intro q h _; exact decodeGen_data q b h

theorem genLast (b : Byte) : Statement (.genLast b) := by
  intro q h _; exact decodeGen_last q b h

theorem genSave (slot : Byte) : Statement (.genSave slot) := by
  exact fun _ _ _ => rfl

theorem genLoad (slot : Byte) : Statement (.genLoad slot) := by
  exact fun _ _ _ => rfl

theorem genSetWave (wave : Byte) : Statement (.genSetWave wave) := by
  exact fun _ _ _ => rfl

theorem genSetFilter (f : Byte) : Statement (.genSetFilter f) := by
  exact fun _ _ _ => rfl

theorem genSetAmplitude (a : Byte) : Statement (.genSetAmplitude a) := by
  exact fun _ _ _ => rfl

theorem genSetOffset (o : Byte) : Statement (.genSetOffset o) := by
  exact fun _ _ _ => rfl

theorem genSetFrequency (f : BitVec 32) : Statement (.genSetFrequency f) := by
  exact fun _ _ _ => rfl

theorem genRequestState : Statement (.genRequestState) := by
  exact fun _ _ _ => rfl

theorem genSetFreqHz (hz : ℚ) (wave : Wave) : Statement (.genSetFreqHz hz wave) := by
  exact fun _ _ _ => rfl

theorem vamCtrl (b : Byte) : Statement (.vamCtrl b) := by
  intro q _ w; simp_all [Instr.wf, decode, decodeRx, decodeVam, Instr.toInput]

theorem vamVrange (b : Byte) : Statement (.vamVrange b) := by
  intro q h w; obtain ⟨_, _, _, cmd, _⟩ := q; cases cmd <;> simp_all [SeqState.selects, Instr.wf, decode, decodeRx, decodeVam, Instr.toInput]

theorem vamIrange (hw : Bool) (b : Byte) : Statement (.vamIrange hw b) := by
  intro q h w; cases hw <;> simp_all [SeqState.selects, Instr.wf, decode, decodeRx, decodeVam, Instr.toInput]

theorem vamReflo (b : Byte) : Statement (.vamReflo b) := by
  intro q h w; obtain ⟨_, _, _, cmd, _⟩ := q; cases cmd <;> simp_all [SeqState.selects, Instr.wf, decode, decodeRx, decodeVam, Instr.toInput]

theorem vamRefhi (b : Byte) : Statement (.vamRefhi b) := by
  intro q h w; obtain ⟨_, _, _, cmd, _⟩ := q; cases cmd <;> simp_all [SeqState.selects, Instr.wf, decode, decodeRx, decodeVam, Instr.toInput]

theorem vamSmplo (b : Byte) : Statement (.vamSmplo b) := by
  intro q h w; obtain ⟨_, _, _, cmd, _⟩ := q; cases cmd <;> simp_all [SeqState.selects, Instr.wf, decode, decodeRx, decodeVam, Instr.toInput]

theorem vamSmphi (q : Quantity) (b : Byte) : Statement (.vamSmphi q b) := by
  intro s h w; cases q <;> simp_all [SeqState.selects, Instr.wf, decode, decodeRx, decodeVam, Instr.toInput]

theorem vamStray (b : Byte) : Statement (.vamStray b) := by
  intro q h w; obtain ⟨_, _, _, cmd, _⟩ := q; cases cmd <;> simp_all [SeqState.selects, Instr.wf, decode, decodeRx, decodeVam, Instr.toInput]

theorem vamCalLoad (src : CalSource) : Statement (.vamCalLoad src) := by
  exact fun _ _ _ => rfl

theorem vamCalUnload : Statement (.vamCalUnload) := by
  exact fun _ _ _ => rfl

theorem reset (u : UnitId) : Statement (.reset u) := by
  exact fun _ _ _ => rfl

end Selection

end Sys2Proof.Laws
end

