-- ==== Sys2Proof/Laws/State.lean ====
section
/-! SUPPORT. What each named update does to each field of the state: one lemma per field per update. -/

namespace Sys2Proof.Machine

variable (s : State)

@[simp] theorem setCnt_cnt (r : CntRegs) : (s.setCnt r).cnt = r := rfl
@[simp] theorem setCnt_gen (r : CntRegs) : (s.setCnt r).gen = s.gen := rfl
@[simp] theorem setCnt_vam (r : CntRegs) : (s.setCnt r).vam = s.vam := rfl
@[simp] theorem setCnt_cntOut (r : CntRegs) : (s.setCnt r).cntOut = s.cntOut := rfl
@[simp] theorem setCnt_genOut (r : CntRegs) : (s.setCnt r).genOut = s.genOut := rfl
@[simp] theorem setCnt_vamOut (r : CntRegs) : (s.setCnt r).vamOut = s.vamOut := rfl
@[simp] theorem setCnt_inputs (r : CntRegs) : (s.setCnt r).inputs = s.inputs := rfl
@[simp] theorem setCnt_resets (r : CntRegs) : (s.setCnt r).resets = s.resets := rfl

@[simp] theorem setGen_cnt (r : GenRegs) : (s.setGen r).cnt = s.cnt := rfl
@[simp] theorem setGen_gen (r : GenRegs) : (s.setGen r).gen = r := rfl
@[simp] theorem setGen_vam (r : GenRegs) : (s.setGen r).vam = s.vam := rfl
@[simp] theorem setGen_cntOut (r : GenRegs) : (s.setGen r).cntOut = s.cntOut := rfl
@[simp] theorem setGen_genOut (r : GenRegs) : (s.setGen r).genOut = s.genOut := rfl
@[simp] theorem setGen_vamOut (r : GenRegs) : (s.setGen r).vamOut = s.vamOut := rfl
@[simp] theorem setGen_inputs (r : GenRegs) : (s.setGen r).inputs = s.inputs := rfl
@[simp] theorem setGen_resets (r : GenRegs) : (s.setGen r).resets = s.resets := rfl

@[simp] theorem setVam_cnt (r : VamRegs) : (s.setVam r).cnt = s.cnt := rfl
@[simp] theorem setVam_gen (r : VamRegs) : (s.setVam r).gen = s.gen := rfl
@[simp] theorem setVam_vam (r : VamRegs) : (s.setVam r).vam = r := rfl
@[simp] theorem setVam_cntOut (r : VamRegs) : (s.setVam r).cntOut = s.cntOut := rfl
@[simp] theorem setVam_genOut (r : VamRegs) : (s.setVam r).genOut = s.genOut := rfl
@[simp] theorem setVam_vamOut (r : VamRegs) : (s.setVam r).vamOut = s.vamOut := rfl
@[simp] theorem setVam_inputs (r : VamRegs) : (s.setVam r).inputs = s.inputs := rfl
@[simp] theorem setVam_resets (r : VamRegs) : (s.setVam r).resets = s.resets := rfl

@[simp] theorem setInputs_cnt (l : List Input) : (s.setInputs l).cnt = s.cnt := rfl
@[simp] theorem setInputs_gen (l : List Input) : (s.setInputs l).gen = s.gen := rfl
@[simp] theorem setInputs_vam (l : List Input) : (s.setInputs l).vam = s.vam := rfl
@[simp] theorem setInputs_cntOut (l : List Input) : (s.setInputs l).cntOut = s.cntOut := rfl
@[simp] theorem setInputs_genOut (l : List Input) : (s.setInputs l).genOut = s.genOut := rfl
@[simp] theorem setInputs_vamOut (l : List Input) : (s.setInputs l).vamOut = s.vamOut := rfl
@[simp] theorem setInputs_inputs (l : List Input) : (s.setInputs l).inputs = l := rfl
@[simp] theorem setInputs_resets (l : List Input) : (s.setInputs l).resets = s.resets := rfl

@[simp] theorem emitCnt_cnt (e : CntEvent) : (s.emitCnt e).cnt = s.cnt := rfl
@[simp] theorem emitCnt_gen (e : CntEvent) : (s.emitCnt e).gen = s.gen := rfl
@[simp] theorem emitCnt_vam (e : CntEvent) : (s.emitCnt e).vam = s.vam := rfl
@[simp] theorem emitCnt_cntOut (e : CntEvent) : (s.emitCnt e).cntOut = s.cntOut ++ [.ev e] := rfl
@[simp] theorem emitCnt_genOut (e : CntEvent) : (s.emitCnt e).genOut = s.genOut := rfl
@[simp] theorem emitCnt_vamOut (e : CntEvent) : (s.emitCnt e).vamOut = s.vamOut := rfl
@[simp] theorem emitCnt_inputs (e : CntEvent) : (s.emitCnt e).inputs = s.inputs := rfl
@[simp] theorem emitCnt_resets (e : CntEvent) : (s.emitCnt e).resets = s.resets := rfl

@[simp] theorem emitGen_cnt (e : GenEvent) : (s.emitGen e).cnt = s.cnt := rfl
@[simp] theorem emitGen_gen (e : GenEvent) : (s.emitGen e).gen = s.gen := rfl
@[simp] theorem emitGen_vam (e : GenEvent) : (s.emitGen e).vam = s.vam := rfl
@[simp] theorem emitGen_cntOut (e : GenEvent) : (s.emitGen e).cntOut = s.cntOut := rfl
@[simp] theorem emitGen_genOut (e : GenEvent) : (s.emitGen e).genOut = s.genOut ++ [.ev e] := rfl
@[simp] theorem emitGen_vamOut (e : GenEvent) : (s.emitGen e).vamOut = s.vamOut := rfl
@[simp] theorem emitGen_inputs (e : GenEvent) : (s.emitGen e).inputs = s.inputs := rfl
@[simp] theorem emitGen_resets (e : GenEvent) : (s.emitGen e).resets = s.resets := rfl

@[simp] theorem emitVam_cnt (e : VamEvent) : (s.emitVam e).cnt = s.cnt := rfl
@[simp] theorem emitVam_gen (e : VamEvent) : (s.emitVam e).gen = s.gen := rfl
@[simp] theorem emitVam_vam (e : VamEvent) : (s.emitVam e).vam = s.vam := rfl
@[simp] theorem emitVam_cntOut (e : VamEvent) : (s.emitVam e).cntOut = s.cntOut := rfl
@[simp] theorem emitVam_genOut (e : VamEvent) : (s.emitVam e).genOut = s.genOut := rfl
@[simp] theorem emitVam_vamOut (e : VamEvent) : (s.emitVam e).vamOut = s.vamOut ++ [.ev e] := rfl
@[simp] theorem emitVam_inputs (e : VamEvent) : (s.emitVam e).inputs = s.inputs := rfl
@[simp] theorem emitVam_resets (e : VamEvent) : (s.emitVam e).resets = s.resets := rfl

@[simp] theorem sendCnt_cnt (bs : List Byte) : (s.sendCnt bs).cnt = s.cnt := rfl
@[simp] theorem sendCnt_gen (bs : List Byte) : (s.sendCnt bs).gen = s.gen := rfl
@[simp] theorem sendCnt_vam (bs : List Byte) : (s.sendCnt bs).vam = s.vam := rfl
@[simp] theorem sendCnt_cntOut (bs : List Byte) : (s.sendCnt bs).cntOut = s.cntOut ++ bs.map .tx := rfl
@[simp] theorem sendCnt_genOut (bs : List Byte) : (s.sendCnt bs).genOut = s.genOut := rfl
@[simp] theorem sendCnt_vamOut (bs : List Byte) : (s.sendCnt bs).vamOut = s.vamOut := rfl
@[simp] theorem sendCnt_inputs (bs : List Byte) : (s.sendCnt bs).inputs = s.inputs := rfl
@[simp] theorem sendCnt_resets (bs : List Byte) : (s.sendCnt bs).resets = s.resets := rfl

@[simp] theorem sendGen_cnt (bs : List Byte) : (s.sendGen bs).cnt = s.cnt := rfl
@[simp] theorem sendGen_gen (bs : List Byte) : (s.sendGen bs).gen = s.gen := rfl
@[simp] theorem sendGen_vam (bs : List Byte) : (s.sendGen bs).vam = s.vam := rfl
@[simp] theorem sendGen_cntOut (bs : List Byte) : (s.sendGen bs).cntOut = s.cntOut := rfl
@[simp] theorem sendGen_genOut (bs : List Byte) : (s.sendGen bs).genOut = s.genOut ++ bs.map .tx := rfl
@[simp] theorem sendGen_vamOut (bs : List Byte) : (s.sendGen bs).vamOut = s.vamOut := rfl
@[simp] theorem sendGen_inputs (bs : List Byte) : (s.sendGen bs).inputs = s.inputs := rfl
@[simp] theorem sendGen_resets (bs : List Byte) : (s.sendGen bs).resets = s.resets := rfl

@[simp] theorem retCnt_cnt (x : Status) : (s.retCnt x).cnt = s.cnt := rfl
@[simp] theorem retCnt_gen (x : Status) : (s.retCnt x).gen = s.gen := rfl
@[simp] theorem retCnt_vam (x : Status) : (s.retCnt x).vam = s.vam := rfl
@[simp] theorem retCnt_cntOut (x : Status) : (s.retCnt x).cntOut = s.cntOut ++ [.ret x] := rfl
@[simp] theorem retCnt_genOut (x : Status) : (s.retCnt x).genOut = s.genOut := rfl
@[simp] theorem retCnt_vamOut (x : Status) : (s.retCnt x).vamOut = s.vamOut := rfl
@[simp] theorem retCnt_inputs (x : Status) : (s.retCnt x).inputs = s.inputs := rfl
@[simp] theorem retCnt_resets (x : Status) : (s.retCnt x).resets = s.resets := rfl

@[simp] theorem retGen_cnt (x : Status) : (s.retGen x).cnt = s.cnt := rfl
@[simp] theorem retGen_gen (x : Status) : (s.retGen x).gen = s.gen := rfl
@[simp] theorem retGen_vam (x : Status) : (s.retGen x).vam = s.vam := rfl
@[simp] theorem retGen_cntOut (x : Status) : (s.retGen x).cntOut = s.cntOut := rfl
@[simp] theorem retGen_genOut (x : Status) : (s.retGen x).genOut = s.genOut ++ [.ret x] := rfl
@[simp] theorem retGen_vamOut (x : Status) : (s.retGen x).vamOut = s.vamOut := rfl
@[simp] theorem retGen_inputs (x : Status) : (s.retGen x).inputs = s.inputs := rfl
@[simp] theorem retGen_resets (x : Status) : (s.retGen x).resets = s.resets := rfl

@[simp] theorem retVam_cnt (x : Status) : (s.retVam x).cnt = s.cnt := rfl
@[simp] theorem retVam_gen (x : Status) : (s.retVam x).gen = s.gen := rfl
@[simp] theorem retVam_vam (x : Status) : (s.retVam x).vam = s.vam := rfl
@[simp] theorem retVam_cntOut (x : Status) : (s.retVam x).cntOut = s.cntOut := rfl
@[simp] theorem retVam_genOut (x : Status) : (s.retVam x).genOut = s.genOut := rfl
@[simp] theorem retVam_vamOut (x : Status) : (s.retVam x).vamOut = s.vamOut ++ [.ret x] := rfl
@[simp] theorem retVam_inputs (x : Status) : (s.retVam x).inputs = s.inputs := rfl
@[simp] theorem retVam_resets (x : Status) : (s.retVam x).resets = s.resets := rfl

/-! ### The streams: one lemma per stream per operation that puts something out on that unit -/

@[simp] theorem emitCnt_cntTx (e : CntEvent) : (s.emitCnt e).cntTx = s.cntTx := by
  simp [State.cntTx, List.filterMap_append]
@[simp] theorem emitCnt_cntEv (e : CntEvent) : (s.emitCnt e).cntEv = s.cntEv ++ [e] := by
  simp [State.cntEv, List.filterMap_append]
@[simp] theorem emitCnt_cntRet (e : CntEvent) : (s.emitCnt e).cntRet = s.cntRet := by
  simp [State.cntRet, List.filterMap_append]
@[simp] theorem sendCnt_cntTx (bs : List Byte) : (s.sendCnt bs).cntTx = s.cntTx ++ bs := by
  simp [State.cntTx, List.filterMap_append, List.filterMap_map]
@[simp] theorem sendCnt_cntEv (bs : List Byte) : (s.sendCnt bs).cntEv = s.cntEv := by
  simp [State.cntEv, List.filterMap_append, List.filterMap_map]
@[simp] theorem sendCnt_cntRet (bs : List Byte) : (s.sendCnt bs).cntRet = s.cntRet := by
  simp [State.cntRet, List.filterMap_append, List.filterMap_map]
@[simp] theorem retCnt_cntTx (x : Status) : (s.retCnt x).cntTx = s.cntTx := by
  simp [State.cntTx, List.filterMap_append]
@[simp] theorem retCnt_cntEv (x : Status) : (s.retCnt x).cntEv = s.cntEv := by
  simp [State.cntEv, List.filterMap_append]
@[simp] theorem retCnt_cntRet (x : Status) : (s.retCnt x).cntRet = s.cntRet ++ [x] := by
  simp [State.cntRet, List.filterMap_append]

@[simp] theorem emitGen_genTx (e : GenEvent) : (s.emitGen e).genTx = s.genTx := by
  simp [State.genTx, List.filterMap_append]
@[simp] theorem emitGen_genEv (e : GenEvent) : (s.emitGen e).genEv = s.genEv ++ [e] := by
  simp [State.genEv, List.filterMap_append]
@[simp] theorem emitGen_genRet (e : GenEvent) : (s.emitGen e).genRet = s.genRet := by
  simp [State.genRet, List.filterMap_append]
@[simp] theorem sendGen_genTx (bs : List Byte) : (s.sendGen bs).genTx = s.genTx ++ bs := by
  simp [State.genTx, List.filterMap_append, List.filterMap_map]
@[simp] theorem sendGen_genEv (bs : List Byte) : (s.sendGen bs).genEv = s.genEv := by
  simp [State.genEv, List.filterMap_append, List.filterMap_map]
@[simp] theorem sendGen_genRet (bs : List Byte) : (s.sendGen bs).genRet = s.genRet := by
  simp [State.genRet, List.filterMap_append, List.filterMap_map]
@[simp] theorem retGen_genTx (x : Status) : (s.retGen x).genTx = s.genTx := by
  simp [State.genTx, List.filterMap_append]
@[simp] theorem retGen_genEv (x : Status) : (s.retGen x).genEv = s.genEv := by
  simp [State.genEv, List.filterMap_append]
@[simp] theorem retGen_genRet (x : Status) : (s.retGen x).genRet = s.genRet ++ [x] := by
  simp [State.genRet, List.filterMap_append]

@[simp] theorem emitVam_vamEv (e : VamEvent) : (s.emitVam e).vamEv = s.vamEv ++ [e] := by
  simp [State.vamEv, List.filterMap_append]
@[simp] theorem emitVam_vamRet (e : VamEvent) : (s.emitVam e).vamRet = s.vamRet := by
  simp [State.vamRet, List.filterMap_append]
@[simp] theorem retVam_vamEv (x : Status) : (s.retVam x).vamEv = s.vamEv := by
  simp [State.vamEv, List.filterMap_append]
@[simp] theorem retVam_vamRet (x : Status) : (s.retVam x).vamRet = s.vamRet ++ [x] := by
  simp [State.vamRet, List.filterMap_append]

/-! ### The streams: what leaves them alone -/

@[simp] theorem setCnt_cntTx (r : CntRegs) : (s.setCnt r).cntTx = s.cntTx := rfl
@[simp] theorem setCnt_cntEv (r : CntRegs) : (s.setCnt r).cntEv = s.cntEv := rfl
@[simp] theorem setCnt_cntRet (r : CntRegs) : (s.setCnt r).cntRet = s.cntRet := rfl
@[simp] theorem setCnt_genTx (r : CntRegs) : (s.setCnt r).genTx = s.genTx := rfl
@[simp] theorem setCnt_genEv (r : CntRegs) : (s.setCnt r).genEv = s.genEv := rfl
@[simp] theorem setCnt_genRet (r : CntRegs) : (s.setCnt r).genRet = s.genRet := rfl
@[simp] theorem setCnt_vamEv (r : CntRegs) : (s.setCnt r).vamEv = s.vamEv := rfl
@[simp] theorem setCnt_vamRet (r : CntRegs) : (s.setCnt r).vamRet = s.vamRet := rfl

@[simp] theorem setGen_cntTx (r : GenRegs) : (s.setGen r).cntTx = s.cntTx := rfl
@[simp] theorem setGen_cntEv (r : GenRegs) : (s.setGen r).cntEv = s.cntEv := rfl
@[simp] theorem setGen_cntRet (r : GenRegs) : (s.setGen r).cntRet = s.cntRet := rfl
@[simp] theorem setGen_genTx (r : GenRegs) : (s.setGen r).genTx = s.genTx := rfl
@[simp] theorem setGen_genEv (r : GenRegs) : (s.setGen r).genEv = s.genEv := rfl
@[simp] theorem setGen_genRet (r : GenRegs) : (s.setGen r).genRet = s.genRet := rfl
@[simp] theorem setGen_vamEv (r : GenRegs) : (s.setGen r).vamEv = s.vamEv := rfl
@[simp] theorem setGen_vamRet (r : GenRegs) : (s.setGen r).vamRet = s.vamRet := rfl

@[simp] theorem setVam_cntTx (r : VamRegs) : (s.setVam r).cntTx = s.cntTx := rfl
@[simp] theorem setVam_cntEv (r : VamRegs) : (s.setVam r).cntEv = s.cntEv := rfl
@[simp] theorem setVam_cntRet (r : VamRegs) : (s.setVam r).cntRet = s.cntRet := rfl
@[simp] theorem setVam_genTx (r : VamRegs) : (s.setVam r).genTx = s.genTx := rfl
@[simp] theorem setVam_genEv (r : VamRegs) : (s.setVam r).genEv = s.genEv := rfl
@[simp] theorem setVam_genRet (r : VamRegs) : (s.setVam r).genRet = s.genRet := rfl
@[simp] theorem setVam_vamEv (r : VamRegs) : (s.setVam r).vamEv = s.vamEv := rfl
@[simp] theorem setVam_vamRet (r : VamRegs) : (s.setVam r).vamRet = s.vamRet := rfl

@[simp] theorem setInputs_cntTx (l : List Input) : (s.setInputs l).cntTx = s.cntTx := rfl
@[simp] theorem setInputs_cntEv (l : List Input) : (s.setInputs l).cntEv = s.cntEv := rfl
@[simp] theorem setInputs_cntRet (l : List Input) : (s.setInputs l).cntRet = s.cntRet := rfl
@[simp] theorem setInputs_genTx (l : List Input) : (s.setInputs l).genTx = s.genTx := rfl
@[simp] theorem setInputs_genEv (l : List Input) : (s.setInputs l).genEv = s.genEv := rfl
@[simp] theorem setInputs_genRet (l : List Input) : (s.setInputs l).genRet = s.genRet := rfl
@[simp] theorem setInputs_vamEv (l : List Input) : (s.setInputs l).vamEv = s.vamEv := rfl
@[simp] theorem setInputs_vamRet (l : List Input) : (s.setInputs l).vamRet = s.vamRet := rfl

@[simp] theorem emitCnt_genTx (e : CntEvent) : (s.emitCnt e).genTx = s.genTx := rfl
@[simp] theorem emitCnt_genEv (e : CntEvent) : (s.emitCnt e).genEv = s.genEv := rfl
@[simp] theorem emitCnt_genRet (e : CntEvent) : (s.emitCnt e).genRet = s.genRet := rfl
@[simp] theorem emitCnt_vamEv (e : CntEvent) : (s.emitCnt e).vamEv = s.vamEv := rfl
@[simp] theorem emitCnt_vamRet (e : CntEvent) : (s.emitCnt e).vamRet = s.vamRet := rfl

@[simp] theorem sendCnt_genTx (bs : List Byte) : (s.sendCnt bs).genTx = s.genTx := rfl
@[simp] theorem sendCnt_genEv (bs : List Byte) : (s.sendCnt bs).genEv = s.genEv := rfl
@[simp] theorem sendCnt_genRet (bs : List Byte) : (s.sendCnt bs).genRet = s.genRet := rfl
@[simp] theorem sendCnt_vamEv (bs : List Byte) : (s.sendCnt bs).vamEv = s.vamEv := rfl
@[simp] theorem sendCnt_vamRet (bs : List Byte) : (s.sendCnt bs).vamRet = s.vamRet := rfl

@[simp] theorem retCnt_genTx (x : Status) : (s.retCnt x).genTx = s.genTx := rfl
@[simp] theorem retCnt_genEv (x : Status) : (s.retCnt x).genEv = s.genEv := rfl
@[simp] theorem retCnt_genRet (x : Status) : (s.retCnt x).genRet = s.genRet := rfl
@[simp] theorem retCnt_vamEv (x : Status) : (s.retCnt x).vamEv = s.vamEv := rfl
@[simp] theorem retCnt_vamRet (x : Status) : (s.retCnt x).vamRet = s.vamRet := rfl

@[simp] theorem emitGen_cntTx (e : GenEvent) : (s.emitGen e).cntTx = s.cntTx := rfl
@[simp] theorem emitGen_cntEv (e : GenEvent) : (s.emitGen e).cntEv = s.cntEv := rfl
@[simp] theorem emitGen_cntRet (e : GenEvent) : (s.emitGen e).cntRet = s.cntRet := rfl
@[simp] theorem emitGen_vamEv (e : GenEvent) : (s.emitGen e).vamEv = s.vamEv := rfl
@[simp] theorem emitGen_vamRet (e : GenEvent) : (s.emitGen e).vamRet = s.vamRet := rfl

@[simp] theorem sendGen_cntTx (bs : List Byte) : (s.sendGen bs).cntTx = s.cntTx := rfl
@[simp] theorem sendGen_cntEv (bs : List Byte) : (s.sendGen bs).cntEv = s.cntEv := rfl
@[simp] theorem sendGen_cntRet (bs : List Byte) : (s.sendGen bs).cntRet = s.cntRet := rfl
@[simp] theorem sendGen_vamEv (bs : List Byte) : (s.sendGen bs).vamEv = s.vamEv := rfl
@[simp] theorem sendGen_vamRet (bs : List Byte) : (s.sendGen bs).vamRet = s.vamRet := rfl

@[simp] theorem retGen_cntTx (x : Status) : (s.retGen x).cntTx = s.cntTx := rfl
@[simp] theorem retGen_cntEv (x : Status) : (s.retGen x).cntEv = s.cntEv := rfl
@[simp] theorem retGen_cntRet (x : Status) : (s.retGen x).cntRet = s.cntRet := rfl
@[simp] theorem retGen_vamEv (x : Status) : (s.retGen x).vamEv = s.vamEv := rfl
@[simp] theorem retGen_vamRet (x : Status) : (s.retGen x).vamRet = s.vamRet := rfl

@[simp] theorem emitVam_cntTx (e : VamEvent) : (s.emitVam e).cntTx = s.cntTx := rfl
@[simp] theorem emitVam_cntEv (e : VamEvent) : (s.emitVam e).cntEv = s.cntEv := rfl
@[simp] theorem emitVam_cntRet (e : VamEvent) : (s.emitVam e).cntRet = s.cntRet := rfl
@[simp] theorem emitVam_genTx (e : VamEvent) : (s.emitVam e).genTx = s.genTx := rfl
@[simp] theorem emitVam_genEv (e : VamEvent) : (s.emitVam e).genEv = s.genEv := rfl
@[simp] theorem emitVam_genRet (e : VamEvent) : (s.emitVam e).genRet = s.genRet := rfl

@[simp] theorem retVam_cntTx (x : Status) : (s.retVam x).cntTx = s.cntTx := rfl
@[simp] theorem retVam_cntEv (x : Status) : (s.retVam x).cntEv = s.cntEv := rfl
@[simp] theorem retVam_cntRet (x : Status) : (s.retVam x).cntRet = s.cntRet := rfl
@[simp] theorem retVam_genTx (x : Status) : (s.retVam x).genTx = s.genTx := rfl
@[simp] theorem retVam_genEv (x : Status) : (s.retVam x).genEv = s.genEv := rfl
@[simp] theorem retVam_genRet (x : Status) : (s.retVam x).genRet = s.genRet := rfl

@[simp] theorem resetUnit_cntTx (u : UnitId) : (s.resetUnit u).cntTx = s.cntTx := by cases u <;> rfl
@[simp] theorem resetUnit_cntEv (u : UnitId) : (s.resetUnit u).cntEv = s.cntEv := by cases u <;> rfl
@[simp] theorem resetUnit_cntRet (u : UnitId) : (s.resetUnit u).cntRet = s.cntRet := by cases u <;> rfl
@[simp] theorem resetUnit_genTx (u : UnitId) : (s.resetUnit u).genTx = s.genTx := by cases u <;> rfl
@[simp] theorem resetUnit_genEv (u : UnitId) : (s.resetUnit u).genEv = s.genEv := by cases u <;> rfl
@[simp] theorem resetUnit_genRet (u : UnitId) : (s.resetUnit u).genRet = s.genRet := by cases u <;> rfl
@[simp] theorem resetUnit_vamEv (u : UnitId) : (s.resetUnit u).vamEv = s.vamEv := by cases u <;> rfl
@[simp] theorem resetUnit_vamRet (u : UnitId) : (s.resetUnit u).vamRet = s.vamRet := by cases u <;> rfl

/-! ### raise: only an event stream grows (60_exceptions R292) -/

@[simp] theorem raise_cnt (e : UnitError) : (s.raise e).cnt = s.cnt := by cases e <;> rfl
@[simp] theorem raise_gen (e : UnitError) : (s.raise e).gen = s.gen := by cases e <;> rfl
@[simp] theorem raise_vam (e : UnitError) : (s.raise e).vam = s.vam := by cases e <;> rfl
@[simp] theorem raise_inputs (e : UnitError) : (s.raise e).inputs = s.inputs := by cases e <;> rfl
@[simp] theorem raise_resets (e : UnitError) : (s.raise e).resets = s.resets := by cases e <;> rfl
@[simp] theorem raise_cntTx (e : UnitError) : (s.raise e).cntTx = s.cntTx := by cases e <;> simp [State.raise]
@[simp] theorem raise_cntRet (e : UnitError) : (s.raise e).cntRet = s.cntRet := by cases e <;> simp [State.raise]
@[simp] theorem raise_genTx (e : UnitError) : (s.raise e).genTx = s.genTx := by cases e <;> simp [State.raise]
@[simp] theorem raise_genRet (e : UnitError) : (s.raise e).genRet = s.genRet := by cases e <;> simp [State.raise]
@[simp] theorem raise_vamRet (e : UnitError) : (s.raise e).vamRet = s.vamRet := by cases e <;> simp [State.raise]

/-! ### resetUnit -/

@[simp] theorem resetUnit_cnt_cnt : (s.resetUnit .cnt).cnt = cntAfterReset s.resets.cnt := rfl
@[simp] theorem resetUnit_cnt_gen : (s.resetUnit .cnt).gen = s.gen := rfl
@[simp] theorem resetUnit_cnt_vam : (s.resetUnit .cnt).vam = s.vam := rfl
@[simp] theorem resetUnit_cnt_cntOut : (s.resetUnit .cnt).cntOut = s.cntOut := rfl
@[simp] theorem resetUnit_cnt_genOut : (s.resetUnit .cnt).genOut = s.genOut := rfl
@[simp] theorem resetUnit_cnt_vamOut : (s.resetUnit .cnt).vamOut = s.vamOut := rfl
@[simp] theorem resetUnit_cnt_inputs : (s.resetUnit .cnt).inputs = s.inputs := rfl
@[simp] theorem resetUnit_cnt_resets : (s.resetUnit .cnt).resets = { s.resets with cnt := s.resets.cnt + 1 } := rfl

@[simp] theorem resetUnit_gen_cnt : (s.resetUnit .gen).cnt = s.cnt := rfl
@[simp] theorem resetUnit_gen_gen : (s.resetUnit .gen).gen = genAfterReset s.resets.gen := rfl
@[simp] theorem resetUnit_gen_vam : (s.resetUnit .gen).vam = s.vam := rfl
@[simp] theorem resetUnit_gen_cntOut : (s.resetUnit .gen).cntOut = s.cntOut := rfl
@[simp] theorem resetUnit_gen_genOut : (s.resetUnit .gen).genOut = s.genOut := rfl
@[simp] theorem resetUnit_gen_vamOut : (s.resetUnit .gen).vamOut = s.vamOut := rfl
@[simp] theorem resetUnit_gen_inputs : (s.resetUnit .gen).inputs = s.inputs := rfl
@[simp] theorem resetUnit_gen_resets : (s.resetUnit .gen).resets = { s.resets with gen := s.resets.gen + 1 } := rfl

@[simp] theorem resetUnit_vam_cnt : (s.resetUnit .vam).cnt = s.cnt := rfl
@[simp] theorem resetUnit_vam_gen : (s.resetUnit .vam).gen = s.gen := rfl
@[simp] theorem resetUnit_vam_vam : (s.resetUnit .vam).vam = vamAfterReset s.resets.vam := rfl
@[simp] theorem resetUnit_vam_cntOut : (s.resetUnit .vam).cntOut = s.cntOut := rfl
@[simp] theorem resetUnit_vam_genOut : (s.resetUnit .vam).genOut = s.genOut := rfl
@[simp] theorem resetUnit_vam_vamOut : (s.resetUnit .vam).vamOut = s.vamOut := rfl
@[simp] theorem resetUnit_vam_inputs : (s.resetUnit .vam).inputs = s.inputs := rfl
@[simp] theorem resetUnit_vam_resets : (s.resetUnit .vam).resets = { s.resets with vam := s.resets.vam + 1 } := rfl

end Sys2Proof.Machine
end

