-- ==== Sys2Proof/Laws/Fetch.lean ====
section
/-! SUPPORT. `withFetchWord` places an operation so that the very next step runs it (log 2). -/

namespace Sys2Proof.Machine

/-- Wherever an operation can be selected, its input selects it: the family `Selection`, for any operation. -/
theorem decode_toInput (i : Instr) : Laws.Selection.Statement i := by
  cases i with
  | cntSent => exact Laws.Selection.cntSent
  | cntLost b => exact Laws.Selection.cntLost b
  | cntRange b => exact Laws.Selection.cntRange b
  | cntNib n b => exact Laws.Selection.cntNib n b
  | cntNib5 b => exact Laws.Selection.cntNib5 b
  | genMemld slot => exact Laws.Selection.genMemld slot
  | genAck => exact Laws.Selection.genAck
  | genPkt => exact Laws.Selection.genPkt
  | genLost b => exact Laws.Selection.genLost b
  | genData b => exact Laws.Selection.genData b
  | genLast b => exact Laws.Selection.genLast b
  | vamCtrl b => exact Laws.Selection.vamCtrl b
  | vamVrange b => exact Laws.Selection.vamVrange b
  | vamIrange hw b => exact Laws.Selection.vamIrange hw b
  | vamReflo b => exact Laws.Selection.vamReflo b
  | vamRefhi b => exact Laws.Selection.vamRefhi b
  | vamSmplo b => exact Laws.Selection.vamSmplo b
  | vamSmphi q b => exact Laws.Selection.vamSmphi q b
  | vamStray b => exact Laws.Selection.vamStray b
  | cntSetMode | cntSetTrigger | genSave | genLoad | genSetWave | genSetFilter | genSetAmplitude | genSetOffset
  | genSetFrequency | genRequestState | genSetFreqHz | vamCalLoad | vamCalUnload | reset =>
    exact fun _ _ _ => rfl

/-- `selecting` puts the sequencing state into the operation's context. -/
theorem selecting_selects (s : State) (i : Instr) : (s.selecting i).seq.selects i := by
  cases i <;> first | trivial | rfl | exact ⟨rfl, Nat.le_refl 1, (by decide : 1 ≤ 8)⟩ | exact ⟨List.mem_cons_self .., rfl⟩

@[simp] theorem selecting_inputs (s : State) (i : Instr) : (s.selecting i).inputs = s.inputs := by
  cases i <;> rfl

/-- The decided instance holds every unit. -/
theorem mem_unitsPresent (u : UnitId) : u ∈ Config.unitsPresent := by cases u <;> decide

/-- An instance that holds the strobed unit takes the strobe. -/
theorem stepWith_cons (units : List UnitId) (s : State) (x : Input) (rest : List Input) (h : s.inputs = x :: rest)
    (hu : inputUnit x ∈ units) : stepWith units s = inputStep x (s.setInputs rest) := by
  simp only [stepWith, h, if_pos hu]

/-- The machine takes the first strobe, whichever unit it is for. -/
theorem step_cons (s : State) (x : Input) (rest : List Input) (h : s.inputs = x :: rest) :
    step s = inputStep x (s.setInputs rest) :=
  stepWith_cons _ s x rest h (mem_unitsPresent _)

/-- With no strobe to take nothing happens. -/
theorem step_nil (s : State) (h : s.inputs = []) : step s = .next s := by
  simp only [step, stepWith, h]

/-- The step after `withFetchWord` executes the operation the word stands for. -/
theorem step_withFetchWord (s : State) (nbits w : Nat) (i : Instr) (h : decodeTableWord nbits w = some i)
    (hw : i.wf = true) : step (s.withFetchWord nbits w) = exec i (s.selecting i) := by
  have hd : decode (s.selecting i).seq i.toInput = i := decode_toInput i _ (selecting_selects s i) hw
  have hs : (s.selecting i).setInputs s.inputs = s.selecting i := by
    rw [← selecting_inputs s i]; rfl
  rw [State.withFetchWord, h, step_cons _ _ _ rfl]
  show exec (decode (s.selecting i).seq i.toInput) ((s.selecting i).setInputs s.inputs) = _
  rw [hd, hs]

end Sys2Proof.Machine
end

