-- ==== Sys2Proof/Laws/Numbers.lean ====
section
/-! SUPPORT. One lemma per conversion function, in the arithmetic of the rule it follows. -/

namespace Sys2Proof.Machine

/-- `asr8` is the floor of the division by 256. -/
theorem asr8_eq_floor (raw : Int) : asr8 raw = ⌊(raw : ℚ) / 256⌋ := by
  have h := Rat.floor_intCast_div_natCast raw 256
  simp only [asr8]
  exact_mod_cast h.symm

/-- The integer below `x + 1 / 2` is a nearest one, and on a tie it is the upper one. -/
theorem floor_half_nearest (x : ℚ) :
    |x - ((x + 1 / 2).floor : ℚ)| ≤ 1 / 2 ∧ (|x - ((x + 1 / 2).floor : ℚ)| = 1 / 2 → ((x + 1 / 2).floor : ℚ) = x + 1 / 2) := by
  have h1 := Rat.floor_le (x + 1 / 2)
  have h2 := Rat.lt_floor_add_one (x + 1 / 2)
  push_cast at h2
  refine ⟨abs_le.2 ⟨by linarith, by linarith⟩, fun h => ?_⟩
  rcases (abs_eq (by norm_num)).1 h with h | h <;> linarith

/-- `roundHalfAway x` is a nearest integer to `x`. -/
theorem roundHalfAway_nearest (x : ℚ) : |x - (roundHalfAway x : ℚ)| ≤ 1 / 2 := by
  unfold roundHalfAway
  split
  · exact (floor_half_nearest x).1
  · have h := (floor_half_nearest (-x)).1
    rw [abs_le] at h ⊢
    push_cast
    constructor <;> linarith [h.1, h.2]

/-- On a tie `roundHalfAway x` is the integer farther from zero. -/
theorem roundHalfAway_tie (x : ℚ) (h : |x - (roundHalfAway x : ℚ)| = 1 / 2) : |x| < |(roundHalfAway x : ℚ)| := by
  unfold roundHalfAway at h ⊢
  split at h
  · rename_i hx
    rw [if_pos hx, (floor_half_nearest x).2 h, abs_of_nonneg hx, abs_of_nonneg (by linarith)]
    linarith
  · rename_i hx
    rw [if_neg hx]
    push Not at hx
    have h' : |-x - ((-x + 1 / 2).floor : ℚ)| = 1 / 2 := by
      have e : -x - ((-x + 1 / 2).floor : ℚ) = -(x - ((-((-x + 1 / 2).floor) : Int) : ℚ)) := by push_cast; ring
      rw [e, abs_neg, h]
    push_cast
    rw [(floor_half_nearest (-x)).2 h', abs_neg, abs_of_neg hx, abs_of_nonneg (by linarith)]
    linarith

/-- `roundHalfAway` on an integer is the integer. -/
theorem roundHalfAway_int (n : Int) : roundHalfAway (n : ℚ) = n := by
  have h := roundHalfAway_nearest (n : ℚ)
  rw [abs_le] at h
  have h1 : ((n - roundHalfAway (n : ℚ) : Int) : ℚ) < 1 := by push_cast; linarith
  have h2 : (-1 : ℚ) < ((n - roundHalfAway (n : ℚ) : Int) : ℚ) := by push_cast; linarith
  have h1' : n - roundHalfAway (n : ℚ) < 1 := by exact_mod_cast h1
  have h2' : (-1 : Int) < n - roundHalfAway (n : ℚ) := by exact_mod_cast h2
  omega

/-- A supported wave gives the rounded scaled frequency; the others give nothing. -/
theorem hertzToRaw_eq (hz : ℚ) (w : Wave) :
    hertzToRaw hz w = (waveFactor w).map fun k => roundHalfAway (16777216 * k * hz / 20000000) := by
  cases w <;> rfl

/-- The offset voltage is minus half the amplitude voltage of the same byte. -/
theorem offsetToVolts_eq (a : Byte) : offsetToVolts a = -(amplitudeToVolts a / 2) := rfl

/-- The magnitude is withheld exactly when the references are equal. -/
theorem vamMagnitude_eq_divideByZero (sum : ℚ) (count : Nat) (e : ScaleEntry) (gain zero : ℚ) (m : CalFactor) :
    vamMagnitude sum count e gain zero m = .divideByZero ↔ gain = zero := by
  unfold vamMagnitude
  split <;> simp_all

/-- A supported wave gives the rounded scaled frequency on the reals too. -/
theorem hertzToRawReal_eq (hz : ℝ) (w : Wave) :
    hertzToRawReal hz w = (waveFactor w).map fun k : ℚ => roundHalfAwayReal (16777216 * (k : ℝ) * hz / 20000000) := by
  cases w <;> simp [hertzToRawReal, waveFactor]

/-- Every real operand acts as the rational it is issued as. -/
theorem hertzToRaw_realOperand (hz : ℝ) (w : Wave) : hertzToRaw (realOperand hz w) w = hertzToRawReal hz w := by
  rw [hertzToRaw_eq, hertzToRawReal_eq, realOperand, hertzToRawReal_eq]
  cases h : waveFactor w with
  | none => rfl
  | some k =>
    have hk : k ≠ 0 := by cases w <;> simp [waveFactor] at h <;> subst h <;> norm_num
    simp only [Option.map_some, Option.some.injEq]
    rw [← roundHalfAway_int (roundHalfAwayReal _)]
    congr 1
    rw [roundHalfAway_int]
    simp only [Config.freqDen, Config.freqNum]
    field_simp

end Sys2Proof.Machine
end

