-- ==== Sys2Proof/Laws/Ops.lean ====
section
/-! SUPPORT. For each shared operation one lemma that says once everything it can do. -/

namespace Sys2Proof.Machine

/-! ### The receive buffer -/

theorem memRead_memWrite_same (buf : Vector Byte 10) (i : Fin 10) (v : Byte) : memRead (memWrite buf i v) i = v := by
  simp [memRead, memWrite]

theorem memRead_memWrite_other (buf : Vector Byte 10) (i j : Fin 10) (v : Byte) (h : i ≠ j) :
    memRead (memWrite buf i v) j = memRead buf j := by
  simp only [memRead, memWrite]
  exact Vector.getElem_set_ne _ _ (fun e => h (Fin.ext e))

/-! ### Field assembly -/

theorem byte_low4 : ∀ b : Byte, (b &&& 0x0F#8).toNat = b.toNat % 16 := by decide
theorem byte_low6 : ∀ b : Byte, (b &&& 0x3F#8).toNat = b.toNat % 64 := by decide

/-- The nibble of byte `n` stands at bits `4n+3 .. 4n`. -/
theorem nibbleAt_toNat (n : Nat) (hn : n ≤ 5) (b : Byte) : (nibbleAt n b).toNat = (b.toNat % 16) * 16 ^ n := by
  have hb : b.toNat % 16 < 16 := Nat.mod_lt _ (by norm_num)
  have hlt : (b.toNat % 16) * 16 ^ n < 2 ^ 24 := by interval_cases n <;> omega
  have hp : (2 : Nat) ^ (4 * n) = 16 ^ n := by rw [pow_mul]; norm_num
  unfold nibbleAt
  rw [BitVec.toNat_shiftLeft, BitVec.toNat_setWidth, byte_low4, Nat.shiftLeft_eq, hp,
    Nat.mod_eq_of_lt (a := b.toNat % 16) (by omega), Nat.mod_eq_of_lt hlt]

/-- Or-ing the nibble into an accumulator whose upper positions are clear is an addition (30_encoding R118 (c)). -/
theorem acc_or_nibble (acc : BitVec 24) (n : Nat) (hn : n ≤ 5) (b : Byte) (h : acc.toNat < 16 ^ n) :
    (acc ||| nibbleAt n b).toNat = acc.toNat + (b.toNat % 16) * 16 ^ n := by
  have hp : (16 : Nat) ^ n = 2 ^ (4 * n) := by rw [pow_mul]; norm_num
  rw [BitVec.toNat_or, nibbleAt_toNat n hn, Nat.or_comm, hp, Nat.mul_comm,
    ← Nat.two_pow_add_eq_or_of_lt (by rw [← hp]; exact h)]
  omega

theorem clamp_eq (v : Int) : clamp v (-31) 31 = max (-31) (min 31 v) := by
  unfold clamp
  split
  · omega
  · split <;> omega

/-- The trigger byte is `0x80` plus the six-bit field. -/
theorem triggerByte_toNat (level : BitVec 32) :
    ((triggerByte level).toNat : Int) = 128 + (clamp level.toInt (-31) 31 + 32) := by
  have hr : ∀ t : Fin 64, (0x80#8 ||| BitVec.ofInt 8 (t.val : Int)).toNat = 128 + t.val := by decide
  have h1 := clamp_eq level.toInt
  obtain ⟨t, ht⟩ : ∃ t : Fin 64, clamp level.toInt (-31) 31 + 32 = (t.val : Int) :=
    ⟨⟨(clamp level.toInt (-31) 31 + 32).toNat, by omega⟩, by simp only; omega⟩
  have he : triggerByte level = 0x80#8 ||| BitVec.ofInt 8 (t.val : Int) := by rw [← ht]; rfl
  rw [he, hr, ht]
  push_cast
  ring

/-- The 10-bit value of two data bytes. -/
theorem raw10_toNat (second first : Byte) : (raw10 second first).toNat = (second.toNat % 16) * 64 + first.toNat % 64 := by
  have h1 : second.toNat % 16 < 16 := Nat.mod_lt _ (by norm_num)
  have h2 : first.toNat % 64 < 2 ^ 6 := Nat.mod_lt _ (by norm_num)
  unfold raw10
  rw [BitVec.toNat_or, BitVec.toNat_shiftLeft, BitVec.toNat_setWidth, BitVec.toNat_setWidth, byte_low4, byte_low6,
    Nat.shiftLeft_eq, Nat.mod_eq_of_lt (a := second.toNat % 16) (by omega),
    Nat.mod_eq_of_lt (a := first.toNat % 64) (by omega), Nat.mod_eq_of_lt (by omega), Nat.mul_comm,
    ← Nat.two_pow_add_eq_or_of_lt h2]

/-- `wave_of` by code: the byte up to 7, `Unknown` (0) above. -/
theorem waveOf_code : ∀ w : Byte, (waveCode (waveOf w)).toNat = if w.toNat ≤ 7 then w.toNat else 0 := by decide

/-- `filter_of` by code: the byte up to 3, `Unknown` (4) above. -/
theorem filterOf_code : ∀ f : Byte, (filterCode (filterOf f)).toNat = if f.toNat ≤ 3 then f.toNat else 4 := by decide

/-- A voltage letter has an index exactly in `'A'..'H'`. -/
theorem vRangeIndex_eq_some (b : Byte) (i : Fin 8) : vRangeIndex b = some i ↔ b.toNat = 0x41 + i.val := by
  unfold vRangeIndex
  split
  · simp only [Option.some.injEq, Fin.ext_iff]
    omega
  · simp only [reduceCtorEq, false_iff]
    omega

/-- A current letter has an index exactly in `'A'..'D'`. -/
theorem iRangeIndex_eq_some (b : Byte) (i : Fin 4) : iRangeIndex b = some i ↔ b.toNat = 0x41 + i.val := by
  unfold iRangeIndex
  split
  · simp only [Option.some.injEq, Fin.ext_iff]
    omega
  · simp only [reduceCtorEq, false_iff]
    omega

/-! ### The counter's report -/

/-- What the sixth nibble can do outside the counter's own event stream: nothing. -/
theorem reportCounterValue_frame (v : CounterValue) (s : State) :
    ∃ evs : List CntEvent, reportCounterValue v s = { s with cntOut := s.cntOut ++ evs.map .ev } ∧
      evs.length ≤ 1 := by
  cases v with
  | hertz x => exact ⟨[.measurement (num x)], rfl, by simp⟩
  | divideByZero => exact ⟨[.decodeError .divideByZero], rfl, by simp⟩
  | noFormula => exact ⟨[], by simp [reportCounterValue], by simp⟩

/-! ### Finalisation -/

/-- `setNeg` writes the counter of its quantity. -/
theorem negOf_setNeg (r : VamRegs) (q : Quantity) (n : Nat) : (r.setNeg q n).negOf q = n := by cases q <;> rfl

/-- What a closed sample run of the quantity reports: at most one event, none when the run is empty, and that one the
sample or the error in its place. -/
def SampleReport (q : Quantity) (count : Nat) (evs : List VamEvent) : Prop :=
  evs.length ≤ 1 ∧ (count = 0 → evs = []) ∧
    ∀ e ∈ evs, e = .decodeError .divideByZero none ∨ ∃ p x, e = sampleEvent q p x

/-- Closing a sample run appends its report to `VAM.ev` and touches nothing else. -/
theorem reportSample_frame (q : Quantity) (s : State) :
    ∃ evs : List VamEvent, reportSample q s = { s with vamOut := s.vamOut ++ evs.map .ev } ∧
      SampleReport q s.vam.count evs := by
  unfold reportSample
  split
  · split
    · exact ⟨[_], rfl, by simp, by omega, by simp⟩
    · exact ⟨[_], rfl, by simp, by omega, by simp⟩
  · exact ⟨[], by simp, by simp, by simp, by simp⟩

/-- Closing a sample run reports it and clears the quantity's negative counter. -/
theorem finaliseSample_frame (q : Quantity) (s : State) :
    ∃ evs : List VamEvent, finaliseSample q s =
        { s with vam := s.vam.setNeg q 0, vamOut := s.vamOut ++ evs.map .ev } ∧ SampleReport q s.vam.count evs := by
  obtain ⟨evs, h, hr⟩ := reportSample_frame q s
  exact ⟨evs, by rw [finaliseSample, h]; rfl, hr⟩

/-- Everything `finalise` can do: at most one event on `VAM.ev`, only when a sample run closes; a reference written only
by its own command; a negative counter cleared only by its own sample command. -/
theorem finalise_cases (s : State) :
    ∃ (evs : List VamEvent) (r : VamRegs), finalise s = { s with vam := r, vamOut := s.vamOut ++ evs.map .ev } ∧
      ((s.vam.cmd ∈ [VamCmd.none, .vRange, .iRange2A, .iRange600mA] ∧ evs = [] ∧ r = s.vam) ∨
       (s.vam.cmd = .vZero ∧ evs = [] ∧ r = { s.vam with vZero := referenceMean s.vam s.vam.vZero }) ∨
       (s.vam.cmd = .vGain ∧ evs = [] ∧ r = { s.vam with vGain := referenceMean s.vam s.vam.vGain }) ∨
       (s.vam.cmd = .iZero ∧ evs = [] ∧ r = { s.vam with iZero := referenceMean s.vam s.vam.iZero }) ∨
       (s.vam.cmd = .iGain ∧ evs = [] ∧ r = { s.vam with iGain := referenceMean s.vam s.vam.iGain }) ∨
       (s.vam.cmd = .vSample ∧ SampleReport .voltage s.vam.count evs ∧ r = { s.vam with vNeg := 0 }) ∨
       (s.vam.cmd = .iSample ∧ SampleReport .current s.vam.count evs ∧ r = { s.vam with iNeg := 0 })) := by
  unfold finalise
  cases hc : s.vam.cmd with
  | none => exact ⟨[], s.vam, by simp, .inl (by simp)⟩
  | vRange => exact ⟨[], s.vam, by simp, .inl (by simp)⟩
  | iRange2A => exact ⟨[], s.vam, by simp, .inl (by simp)⟩
  | iRange600mA => exact ⟨[], s.vam, by simp, .inl (by simp)⟩
  | vZero => exact ⟨[], _, by simp [State.setVam], .inr (.inl ⟨rfl, rfl, rfl⟩)⟩
  | vGain => exact ⟨[], _, by simp [State.setVam], .inr (.inr (.inl ⟨rfl, rfl, rfl⟩))⟩
  | iZero => exact ⟨[], _, by simp [State.setVam], .inr (.inr (.inr (.inl ⟨rfl, rfl, rfl⟩)))⟩
  | iGain => exact ⟨[], _, by simp [State.setVam], .inr (.inr (.inr (.inr (.inl ⟨rfl, rfl, rfl⟩))))⟩
  | vSample =>
    obtain ⟨evs, h, hr⟩ := finaliseSample_frame .voltage s
    exact ⟨evs, _, h, .inr (.inr (.inr (.inr (.inr (.inl ⟨rfl, hr, rfl⟩)))))⟩
  | iSample =>
    obtain ⟨evs, h, hr⟩ := finaliseSample_frame .current s
    exact ⟨evs, _, h, .inr (.inr (.inr (.inr (.inr (.inr ⟨rfl, hr, rfl⟩)))))⟩

/-- What `VAM.CTRL` does after finalisation: the run registers cleared, the command selected, one event when it is
unknown. -/
theorem selectCommand_clearRun (b : Byte) (s : State) :
    selectCommand b (clearRun s) =
      { s with
        vam := { s.vam with sum := 0, count := 0, latchFull := false, cmd := vamCmdOf b }
        vamOut := s.vamOut ++ if vamCmdOf b = .none then [.ev (.decodeError .unknownControl (some b))] else [] } := by
  unfold selectCommand clearRun
  split <;> simp [State.setVam, State.raise, State.emitVam]

/-! ### Calibration -/

theorem loadFactors_calV (r : VamRegs) (l : List CalFactor) (h : 12 ≤ l.length) (k : Fin 8) :
    (loadFactors r l h).calV[k] = l[k.val]'(by omega) := by
  simp [loadFactors]

theorem loadFactors_calI (r : VamRegs) (l : List CalFactor) (h : 12 ≤ l.length) (k : Fin 4) :
    (loadFactors r l h).calI[k] = l[8 + k.val]'(by omega) := by
  simp [loadFactors]

end Sys2Proof.Machine
end

