-- ==== Sys2Proof/Tests/Slice0.lean ====
section
/-! SUPPORT. Tests of the model on fixed values, all from the spec (V, T and P numbers are the vectors of
95_test_vectors), and the witnesses that the hypotheses of the obligations can be met. -/

open Sys2Proof Sys2Proof.Machine Host

namespace Sys2Proof.Tests

-- many small kernel checks: one at a time, so that their threads do not add up
set_option Elab.async false

/-! ### Small states -/

/-- Reset, but for the counter's registers. -/
def cntAt (stage : CntStage) (acc : BitVec 24) (range : Byte) (valid : Bool) : State :=
  { State.reset with cnt := { stage := stage, acc := acc, range := range, rangeValid := valid } }

/-- Reset, but for the generator in mid-packet. -/
def genAt (rxlen : BitVec 4) (buf : Vector Byte 10) : State :=
  { State.reset with gen := { GenRegs.reset with awaiting := true, rxlen := rxlen, rxbuf := buf } }

/-- Reset, but for the VAmeter's command and latch. -/
def vamAt (cmd : VamCmd) (full : Bool) (low : Byte) : State :=
  { State.reset with vam := { VamRegs.reset with cmd := cmd, latchFull := full, sampleLow := low } }

/-- Reset, but for a run of the given command with sum, count and the voltage references 512 and 768. -/
def vamRun (cmd : VamCmd) (sum : ℚ) (count neg : Nat) : State :=
  { State.reset with
    vam := { VamRegs.reset with cmd := cmd, sum := sum, count := count, vNeg := neg, vZero := 512, vGain := 768 } }

/-- The next state, `none` when the machine stops. -/
def nextOf : Outcome State Fault Refusal → Option State
  | .next t => some t
  | .fault _ => none
  | .refused _ => none

/-- The counter unit after an operation. -/
def cntAfter (i : Instr) (s : State) : Option (CntRegs × List CntOut) :=
  (nextOf (exec i s)).map fun t => (t.cnt, t.cntOut)

/-- What the generator unit has put out after an operation. -/
def genOutAfter (i : Instr) (s : State) : Option (List GenOut) :=
  (nextOf (exec i s)).map State.genOut

/-- The VAmeter's registers after an operation. -/
def vamAfter (i : Instr) (s : State) : Option VamRegs :=
  (nextOf (exec i s)).map State.vam

/-! ### WellFormed: each check refuses an ill-formed term (30_encoding R103, R105, R130) -/

theorem test_wf_refuses_cntLost : (Instr.cntLost 0xC9#8).wf = false := by decide
theorem test_wf_refuses_genLost_memory : (Instr.genLost 0x37#8).wf = false := by decide
theorem test_wf_refuses_genLost_ack : (Instr.genLost 0xD3#8).wf = false := by decide
theorem test_wf_refuses_genLost_packet : (Instr.genLost 0xD2#8).wf = false := by decide
theorem test_wf_refuses_vamCtrl : (Instr.vamCtrl 0x7F#8).wf = false := by decide
theorem test_wf_refuses_vamVrange : (Instr.vamVrange 0xC1#8).wf = false := by decide
theorem test_wf_refuses_vamIrange : (Instr.vamIrange true 0xC1#8).wf = false := by decide
theorem test_wf_refuses_vamReflo : (Instr.vamReflo 0x80#8).wf = false := by decide
theorem test_wf_refuses_vamRefhi : (Instr.vamRefhi 0x80#8).wf = false := by decide
theorem test_wf_refuses_vamSmplo : (Instr.vamSmplo 0x80#8).wf = false := by decide
theorem test_wf_refuses_vamSmphi : (Instr.vamSmphi .voltage 0x80#8).wf = false := by decide
theorem test_wf_refuses_vamStray : (Instr.vamStray 0x80#8).wf = false := by decide

/-! ### Decoding: words written out bit by bit from 30_encoding R102 to R107 -/

theorem test_decode_counter_receive :
    decodeCnt .awaitSentinel 0b11001001#8 = .cntSent ∧ decodeCnt .awaitSentinel 0b11001000#8 = .cntLost 0xC8#8 ∧
    decodeCnt .awaitRange 0b01000001#8 = .cntRange 0x41#8 ∧ decodeCnt .awaitRange 0b11001001#8 = .cntRange 0xC9#8 ∧
    decodeCnt (.collectingNibble 0) 0b00110001#8 = .cntNib 0 0x31#8 ∧
    decodeCnt (.collectingNibble 4) 0b11111111#8 = .cntNib 4 0xFF#8 ∧
    decodeCnt (.collectingNibble 5) 0b00110110#8 = .cntNib5 0x36#8 := by decide

theorem test_decode_generator_receive :
    decodeGen false 0#4 0b00110000#8 = .genMemld 0#3 ∧ decodeGen false 0#4 0b00110111#8 = .genMemld 7#3 ∧
    decodeGen false 0#4 0b11010011#8 = .genAck ∧ decodeGen false 0#4 0b11010010#8 = .genPkt ∧
    decodeGen false 0#4 0b00101111#8 = .genLost 0x2F#8 ∧ decodeGen false 0#4 0b00111000#8 = .genLost 0x38#8 ∧
    decodeGen true 1#4 0b00110010#8 = .genData 0x32#8 ∧ decodeGen true 8#4 0b11010011#8 = .genData 0xD3#8 ∧
    decodeGen true 9#4 0b11010010#8 = .genLast 0xD2#8 := by decide

theorem test_decode_vameter_receive :
    decodeVam .vRange false 0b11111111#8 = .vamCtrl 0xFF#8 ∧ decodeVam .none true 0b10000000#8 = .vamCtrl 0x80#8 ∧
    decodeVam .vRange false 0b01000011#8 = .vamVrange 0x43#8 ∧
    decodeVam .iRange2A false 0b01000001#8 = .vamIrange false 0x41#8 ∧
    decodeVam .iRange600mA false 0b01000100#8 = .vamIrange true 0x44#8 ∧
    decodeVam .iZero false 0b00100100#8 = .vamReflo 0x24#8 ∧ decodeVam .vGain true 0b00001100#8 = .vamRefhi 0x0C#8 ∧
    decodeVam .iSample false 0b00111111#8 = .vamSmplo 0x3F#8 ∧
    decodeVam .vSample true 0b00001010#8 = .vamSmphi .voltage 0x0A#8 ∧
    decodeVam .iSample true 0b01110000#8 = .vamSmphi .current 0x70#8 ∧
    decodeVam .none false 0b01000001#8 = .vamStray 0x41#8 := by decide

theorem test_decode_counter_transmit :
    decodeTx .cnt [0b10100000#8] = .ok (.cntSetTrigger 0#32) ∧
    decodeTx .cnt [0b10111111#8] = .ok (.cntSetTrigger 31#32) ∧
    decodeTx .cnt [0b10000001#8] = .ok (.cntSetTrigger (BitVec.ofInt 32 (-31))) := by decide

theorem test_decode_generator_transmit :
    decodeTx .gen [0b01100011#8] = .ok (.genSave 3#8) ∧ decodeTx .gen [0b01110111#8] = .ok (.genLoad 7#8) ∧
    decodeTx .gen [0b00110001#8] = .ok (.genSetWave 1#8) ∧
    decodeTx .gen [0b01000110#8, 0b00000011#8] = .ok (.genSetFilter 3#8) ∧
    decodeTx .gen [0b01010110#8, 0b10000000#8] = .ok (.genSetAmplitude 128#8) ∧
    decodeTx .gen [0b01001111#8, 0b11111111#8] = .ok (.genSetOffset 255#8) ∧
    decodeTx .gen [0b01010011#8, 0b00000000#8, 0b00011101#8, 0b01111110#8] = .ok (.genSetFrequency 7550#32) ∧
    decodeTx .gen [0b00111111#8] = .ok .genRequestState := by decide

theorem test_decode_transmit_rejects :
    decodeTx .gen [0b11010010#8] = .error (.unknownFirstByte 0xD2#8) ∧ decodeTx .gen [] = .error .empty ∧
    decodeTx .gen [0b01000110#8] = .error (.wrongLength 0x46#8) ∧
    decodeTx .gen [0b01000110#8, 0b00000100#8] = .error (.operandBits 0x04#8) ∧
    decodeTx .vam [0b00111111#8] = .error .noTransmitSide := by decide

/-- A host operation has no encoding (30_encoding R100); a command decodes to its operation. -/
theorem test_decode_commands :
    decodeCommand (.vamCalLoad .unavailable) = .vamCalLoad .unavailable ∧ decodeCommand .vamCalUnload = .vamCalUnload ∧
    decodeCommand (.reset .gen) = .reset .gen ∧ decodeCommand (.cntSetMode 3#8) = .cntSetMode 3#8 ∧
    encode .vamCalUnload = [] ∧ encode (.reset .cnt) = [] := by decide

/-- The table's `match` words of the rows that fix bits (spec/opcode_table.json). -/
theorem test_decode_table_words :
    decodeTableWord 8 0xC9 = some .cntSent ∧ decodeTableWord 8 0x30 = some (.genMemld 0#3) ∧
    decodeTableWord 8 0xD3 = some .genAck ∧ decodeTableWord 8 0xD2 = some .genPkt ∧
    decodeTableWord 8 0x60 = some (.genSave 0#8) ∧ decodeTableWord 8 0x70 = some (.genLoad 0#8) ∧
    decodeTableWord 8 0x3F = some .genRequestState ∧ decodeTableWord 8 0x80 = some (.vamCtrl 0x80#8) ∧
    decodeTableWord 8 0xA0 = some (.cntSetTrigger 0#32) ∧ decodeTableWord 8 0x41 = some (.vamStray 0x41#8) ∧
    decodeTableWord 16 0x4602 = some (.genSetFilter 2#8) ∧ decodeTableWord 16 0x5680 = some (.genSetAmplitude 0x80#8) ∧
    decodeTableWord 16 0x4F01 = some (.genSetOffset 1#8) ∧
    decodeTableWord 32 0x53001D7E = some (.genSetFrequency 7550#32) ∧ decodeTableWord 8 0x100 = none := by decide

theorem test_fetch_word_runs :
    (nextOf (step (State.reset.withFetchWord 8 0xC9))).map State.cnt =
        some { CntRegs.reset with stage := .awaitRange } ∧
    (nextOf (step (State.reset.withFetchWord 32 0x53001D7E))).map (State.genTx) =
        some [0x53#8, 0x00#8, 0x1D#8, 0x7E#8] := by decide +kernel

/-! ### Counter, receive (40_counter_decoder; vectors V1, V2, T1 to T12) -/

/-- Trace of T1: stage 0 to 1. -/
theorem test_cntSent_opens : cntAfter .cntSent State.reset =
    some ({ stage := .awaitRange, acc := 0#24, range := 0#8, rangeValid := false }, []) := by
  decide +kernel

/-- T8. -/
theorem test_cntLost_reports : cntAfter (.cntLost 0xFF#8) State.reset =
    some (CntRegs.reset, [.ev (.syncLost 0xFF#8)]) := by decide +kernel

/-- T1: the first range byte is a change. -/
theorem test_cntRange_first : cntAfter (.cntRange 0x42#8) (cntAt .awaitRange 0#24 0#8 false) =
    some ({ stage := .collectingNibble 0, acc := 0#24, range := 0x42#8, rangeValid := true },
      [.ev (.rangeChanged 0x42#8)]) := by decide +kernel

/-- T10: the same range again is no change. -/
theorem test_cntRange_same : cntAfter (.cntRange 0x41#8) (cntAt .awaitRange 0#24 0x41#8 true) =
    some ({ stage := .collectingNibble 0, acc := 0#24, range := 0x41#8, rangeValid := true },
      []) := by decide +kernel

/-- Trace of T1: acc 0x054321 after the fifth nibble `35`. -/
theorem test_cntNib_fifth : cntAfter (.cntNib 4 0x35#8) (cntAt (.collectingNibble 4) 0x004321#24 0x42#8 true) =
    some ({ stage := .collectingNibble 5, acc := 0x054321#24, range := 0x42#8, rangeValid := true },
      []) := by decide +kernel

/-- T1: val 0x654321, range `'B'`. -/
theorem test_cntNib5_measures : cntAfter (.cntNib5 0x36#8) (cntAt (.collectingNibble 5) 0x054321#24 0x42#8 true) =
    some ({ stage := .awaitSentinel, acc := 0#24, range := 0x42#8, rangeValid := true },
      [.ev (.measurement (num 13272642))]) := by decide +kernel

/-- V2, T12: range `'C'` and value 0. -/
theorem test_cntNib5_divides_by_zero :
    cntAfter (.cntNib5 0x10#8) (cntAt (.collectingNibble 5) 0#24 0x43#8 true) =
    some ({ stage := .awaitSentinel, acc := 0#24, range := 0x43#8, rangeValid := true },
      [.ev (.decodeError .divideByZero)]) := by decide +kernel

/-- V1, T2, T3, T4, T5, T6: the formulas. -/
theorem test_counterHertz :
    counterHertz 0x41#8 0x100000#24 = .hertz 268435456 ∧ counterHertz 0x43#8 1000#24 = .hertz 2000 ∧
    counterHertz 0x61#8 5#24 = .hertz 128 ∧ counterHertz 0x62#8 1#24 = .hertz (1 / 5) ∧
    counterHertz 0x41#8 0xFFFFFF#24 = .hertz 4294967040 ∧ counterHertz 0x5A#8 0x654321#24 = .noFormula := by
  decide +kernel

/-! ### Counter, transmit (41_counter_encoder; T20 to T30) -/

/-- T20 to T27. -/
theorem test_triggerByte :
    triggerByte 0#32 = 0xA0#8 ∧ triggerByte (BitVec.ofInt 32 (-5)) = 0x9B#8 ∧ triggerByte 31#32 = 0xBF#8 ∧
    triggerByte 32#32 = 0xBF#8 ∧ triggerByte (BitVec.ofInt 32 (-31)) = 0x81#8 ∧
    triggerByte (BitVec.ofInt 32 (-32)) = 0x81#8 ∧ triggerByte 0x80000000#32 = 0x81#8 ∧ triggerByte 1#32 = 0xA1#8 := by
  decide

/-- P1's last line. -/
theorem test_cntSetTrigger_sends : cntAfter (.cntSetTrigger 10#32) State.reset =
    some (CntRegs.reset, [.tx 0xAA#8, .ret .ok]) := by decide +kernel

/-- T29. -/
theorem test_cntSetMode_sends : cntAfter (.cntSetMode 2#8) State.reset =
    some (CntRegs.reset, [.tx (Config.cntModeByte 2), .ret .ok]) := rfl

/-- T30. -/
theorem test_cntSetMode_invalid : cntAfter (.cntSetMode 3#8) State.reset =
    some (CntRegs.reset, [.ret .invalidArgument]) := by decide +kernel

/-! ### Generator, receive (42_generator_decoder; T40 to T51) -/

/-- T41. -/
theorem test_genMemld : genOutAfter (.genMemld 7#3) State.reset =
    some [.ev (.memoryLoaded 7#3), .tx 0x3F#8] := by decide +kernel

/-- T42. -/
theorem test_genAck : genOutAfter .genAck State.reset = some [.ev .acknowledged] := by
  decide +kernel

/-- T43. -/
theorem test_genLost : genOutAfter (.genLost 0x3F#8) State.reset =
    some [.ev (.byteLost 0x3F#8)] := by decide +kernel

/-- T51's first byte. -/
theorem test_genPkt : (nextOf (exec .genPkt State.reset)).map State.gen =
    some { GenRegs.reset with
      awaiting := true, rxlen := 1#4, rxbuf := #v[0xD2#8, 0#8, 0#8, 0#8, 0#8, 0#8, 0#8, 0#8, 0#8, 0#8] } := by decide

/-- T51's second byte. -/
theorem test_genData :
    (nextOf (exec (.genData 1#8) (genAt 1#4 #v[0xD2#8, 0#8, 0#8, 0#8, 0#8, 0#8, 0#8, 0#8, 0#8, 0#8]))).map State.gen =
    some { GenRegs.reset with
      awaiting := true, rxlen := 2#4, rxbuf := #v[0xD2#8, 1#8, 0#8, 0#8, 0#8, 0#8, 0#8, 0#8, 0#8, 0#8] } := by decide

/-- T44: the event, with the period of `asr(10000, 8) = 39`. -/
theorem test_genLast_serial :
    genOutAfter (.genLast 0xAA#8)
      (genAt 9#4 #v[0xD2#8, 0x06#8, 0x00#8, 0x27#8, 0x10#8, 0x10#8, 0xFF#8, 0x03#8, 0x0A#8, 0#8]) =
    some [.ev (.stateUpdated .serial (.period (num (200000000 / 39))) (num (481 / 100)) (num (-481 / 200)) .f600Hz 2#3)] := by
  decide +kernel

/-- V4 with T50's field places: the registers. -/
theorem test_genLast_registers :
    (nextOf (exec (.genLast 0x55#8)
      (genAt 9#4 #v[0xD2#8, 0x01#8, 0xFF#8, 0xFF#8, 0xF6#8, 0x33#8, 0x80#8, 0x00#8, 0x0A#8, 0#8]))).map State.gen =
    some { awaiting := false, rxlen := 0#4, wave := .sine, filter := .none, amplitude := 0x80#8, offset := 0x33#8,
           frequency := BitVec.ofInt 24 (-10), memorySlot := 2#3,
           rxbuf := #v[0xD2#8, 0x01#8, 0xFF#8, 0xFF#8, 0xF6#8, 0x33#8, 0x80#8, 0x00#8, 0x0A#8, 0x55#8] } := by
  decide

/-- V3, V4, T45 to T49 and the values after T96. -/
theorem test_frequencyToHertz :
    frequencyToHertz 10 .sine = .hertz (num (390625 / 294912)) ∧ frequencyToHertz (-10) .sine = .hertz (num (-390625 / 294912)) ∧
    frequencyToHertz 255 .serialInverted = .absent ∧ frequencyToHertz (-8388608) .unknown = .absent ∧
    frequencyToHertz 5872 .square = .hertz (num (28671875 / 28672)) ∧
    frequencyToHertz 5033 .sawtooth = .hertz (num (393203125 / 393216)) ∧
    frequencyToHertz (-256) .serial = .period (num (-200000000)) ∧
    frequencyToHertz (-8388608) .sine = .hertz (num (-10000000 / 9)) := by decide +kernel

/-- V3, T46. -/
theorem test_generator_volts :
    amplitudeToVolts 128#8 = 15392 / 6375 ∧ offsetToVolts 128#8 = -7696 / 6375 ∧
    amplitudeToVolts 2#8 = 481 / 12750 ∧ offsetToVolts 2#8 = -481 / 25500 := by decide +kernel

/-! ### Generator, transmit (43_generator_encoder; T60 to T96) -/

/-- T61. -/
theorem test_genSave_masks : genOutAfter (.genSave 9#8) State.reset =
    some [.tx 0x61#8, .ret .ok] := by decide +kernel

/-- T63. -/
theorem test_genLoad_masks : genOutAfter (.genLoad 0xFF#8) State.reset =
    some [.tx 0x77#8, .ret .ok] := by decide +kernel

/-- V5. -/
theorem test_genSetWave_zero : genOutAfter (.genSetWave 0#8) State.reset =
    some [.ret .ok] := by decide +kernel

/-- T66. -/
theorem test_genSetWave_eight : genOutAfter (.genSetWave 8#8) State.reset =
    some [.tx 0x30#8, .ret .ok] := by decide +kernel

/-- T68. -/
theorem test_genSetFilter_masks : genOutAfter (.genSetFilter 4#8) State.reset =
    some [.tx 0x46#8, .tx 0x00#8, .ret .ok] := by decide +kernel

/-- T69. -/
theorem test_genSetAmplitude : genOutAfter (.genSetAmplitude 128#8) State.reset =
    some [.tx 0x56#8, .tx 0x80#8, .ret .ok] := by decide +kernel

/-- T70. -/
theorem test_genSetOffset : genOutAfter (.genSetOffset 255#8) State.reset =
    some [.tx 0x4F#8, .tx 0xFF#8, .ret .ok] := by decide +kernel

/-- T72. -/
theorem test_genSetFrequency_negative : genOutAfter (.genSetFrequency 0xFFFFFFF6#32) State.reset =
    some [.tx 0x53#8, .tx 0xFF#8, .tx 0xFF#8, .tx 0xF6#8, .ret .ok] := by decide +kernel

/-- T73. -/
theorem test_genSetFrequency_drops : genOutAfter (.genSetFrequency 0x0100000A#32) State.reset =
    some [.tx 0x53#8, .tx 0x00#8, .tx 0x00#8, .tx 0x0A#8, .ret .ok] := by decide +kernel

/-- T74. -/
theorem test_genRequestState : genOutAfter (.genRequestState) State.reset =
    some [.tx 0x3F#8, .ret .ok] := by decide +kernel

/-- T91. -/
theorem test_genSetFreqHz_wraps : genOutAfter (.genSetFreqHz 1111112 .sine) State.reset =
    some [.tx 0x53#8, .tx 0x80#8, .tx 0x00#8, .tx 0x07#8, .ret .ok] := by decide +kernel

/-- T93. -/
theorem test_genSetFreqHz_unsupported : genOutAfter (.genSetFreqHz 1000 .serial) State.reset =
    some [.ret .unsupported] := by decide +kernel

/-- T80, T82 to T84, T86, T87, T90, T92: rounding, with ties away from zero. -/
theorem test_hertzToRaw :
    hertzToRaw 1000 .sine = some 7550 ∧ hertzToRaw 1000 .sawtooth = some 5033 ∧ hertzToRaw 1000 .square = some 5872 ∧
    hertzToRaw (-1000) .sine = some (-7550) ∧ hertzToRaw (78125 / 1179648) .sine = some 1 ∧
    hertzToRaw (-78125 / 1179648) .sine = some (-1) ∧ hertzToRaw 1111111 .triangle = some 8388607 ∧
    hertzToRaw 2000000 .sine = some 15099494 := by decide +kernel

/-! ### VAmeter, receive (44_vameter_decoder; V7, T100 to T112) -/

/-- V7: `VGAIN` closes the run of two raws 512. -/
theorem test_vamCtrl_closes_reference (b : Byte) :
    (vamAfter (.vamCtrl b) { State.reset with vam := { VamRegs.reset with cmd := .vZero, sum := 1024, count := 2 } }).map
      (fun r => (r.vZero, r.sum, r.count)) = some (512, 0, 0) := by
  have h : (1024 : ℚ) / ((2 : Nat) : ℚ) = 512 := by norm_num
  exact congrArg (fun x : ℚ => some (x, (0 : ℚ), 0)) h

/-- T104: the references are equal, so the sample is withheld; the code `VZERO` is known. -/
theorem test_vamCtrl_divides_by_zero :
    (nextOf (exec (.vamCtrl Config.vamCcVZero)
      { State.reset with vam := { VamRegs.reset with cmd := .vSample, sum := 10000, count := 1 } })).map
        (fun t => (t.vamEv, t.vam.cmd)) = some ([.decodeError .divideByZero none], .vZero) := by
  have h : vamCmdOf Config.vamCcVZero = .vZero := by
    simp [vamCmdOf, Config.vamCcVZero, Config.vamCcVRange, vamCc_inj]
  show (some ((selectCommand _ _).vamEv, vamCmdOf Config.vamCcVZero) : Option (List VamEvent × VamCmd)) = _
  rw [selectCommand_clearRun, h]
  decide +kernel

/-- T101: a new letter. -/
theorem test_vamVrange_changes : (nextOf (exec (.vamVrange 0x43#8) (vamAt .vRange false 0#8))).map
    (fun t => (t.vam.vRange, t.vam.vRangeValid, t.vamEv)) =
    some (2, true, [.voltageRangeChanged 2 (Config.vamVLabel 2)]) := rfl

/-- T101: `'I'` is no voltage letter. -/
theorem test_vamVrange_invalid : (nextOf (exec (.vamVrange 0x49#8) (vamAt .vRange false 0#8))).map
    (fun t => (t.vam.vRangeValid, t.vamEv)) =
    some (false, [.decodeError .invalidRangeLetter (some 0x49#8)]) := by decide +kernel

/-- T102: the variant changes, the letter does not. -/
theorem test_vamIrange_variant : (nextOf (exec (.vamIrange true 0x41#8)
      { State.reset with vam := { VamRegs.reset with cmd := .iRange600mA, iRangeValid := true } })).map
    (fun t => (t.vam.iRange, t.vam.hwSwitch, t.vamEv)) =
    some (0, true, [.currentRangeChanged true 0 (Config.vamILabel true 0)]) := rfl

/-- T102: `'E'` is no current letter. -/
theorem test_vamIrange_invalid : (nextOf (exec (.vamIrange true 0x45#8) (vamAt .iRange600mA false 0#8))).map
    (fun t => (t.vam.hwSwitch, t.vamEv)) =
    some (false, [.decodeError .invalidRangeLetter (some 0x45#8)]) := by decide +kernel

/-- T103's first byte, whole. -/
theorem test_vamReflo : vamAfter (.vamReflo 0x7F#8) (vamAt .vZero false 0#8) =
    some { VamRegs.reset with cmd := .vZero, latchFull := true, sampleLow := 0x7F#8 } := by decide +kernel

/-- T103: the ignored bits; raw 1023. -/
theorem test_vamRefhi : vamAfter (.vamRefhi 0x7F#8) (vamAt .vZero true 0x7F#8) =
    some { VamRegs.reset with cmd := .vZero, sampleLow := 0x7F#8, sum := 1023, count := 1 } := by decide +kernel

/-- T112's first byte. -/
theorem test_vamSmplo : vamAfter (.vamSmplo 0x24#8) (vamAt .iSample false 0#8) =
    some { VamRegs.reset with cmd := .iSample, latchFull := true, sampleLow := 0x24#8 } := by decide +kernel

/-- V7: raw 384, deviation -128, after raw 640. -/
theorem test_vamSmphi_voltage :
    vamAfter (.vamSmphi .voltage 0x06#8) (vamRun .vSample 16384 1 0) =
    some { VamRegs.reset with cmd := .vSample, sum := 32768, count := 2, vNeg := 1, vZero := 512, vGain := 768 } := by
  decide +kernel

/-- T112: raw 100 against `i_zero = 201 / 2`. -/
theorem test_vamSmphi_current :
    (vamAfter (.vamSmphi .current 0x01#8)
      { State.reset with
        vam := { VamRegs.reset with cmd := .iSample, latchFull := true, sampleLow := 0x24#8, iZero := 201 / 2 } }).map
      (fun r => (r.sum, r.count, r.iNeg, r.vNeg)) = some (1 / 4, 1, 1, 0) := by decide +kernel

/-- T100. -/
theorem test_vamStray : (nextOf (exec (.vamStray 0x41#8) State.reset)).map (fun t => (t.vam, t.vamEv)) =
    some (VamRegs.reset, [.decodeError .unexpectedData (some 0x41#8)]) := by decide +kernel

/-- T106 to T110: the boundaries of the polarity. -/
theorem test_polarity :
    polarity 1 2 = .dcPositive ∧ polarity 4 8 = .ac ∧ polarity 2 8 = .dcPositive ∧ polarity 3 8 = .ac ∧
    polarity 6 8 = .ac ∧ polarity 7 8 = .dcNegative ∧ polarity 1 1 = .dcPositive ∧ polarity 2 2 = .dcPositive ∧
    polarity 3 3 = .dcNegative ∧ polarity 3 4 = .dcNegative ∧ polarity 3 5 = .ac := by decide

/-- V7: `sqrt(32768 / 2) / 256 = 1 / 2`, so 1 / 4 stands under the root; T112: `861107 / 4 * (2 / 1599)^2`. -/
theorem test_vamMagnitude :
    vamMagnitude 32768 2 (.voltage 0) 768 512 1000 = .value { radicand := 1 / 4, scale := .voltage 0 } ∧
    vamMagnitude 861107 4 (.current 0) 900 (201 / 2) 1000 =
      .value { radicand := 861107 / 4 * (2 / 1599) ^ 2, scale := .current 0 } ∧
    vamMagnitude 10000 1 (.voltage 0) 0 0 1000 = .divideByZero := by decide +kernel

/-! ### Host operations (45_vameter_calibration_host, 70_reset_and_hazards; V8, V9, T120 to T122, T11) -/

/-- T122: thirteen numbers, the last ignored. -/
theorem test_vamCalLoad_thirteen :
    (nextOf (exec (.vamCalLoad (.numbers [1, 2, 3, 4, 5, 6, 7, 8, 9, 10, 11, 12, 13])) State.reset)).map
      (fun t => (t.vam.calV, t.vam.calI, t.vamRet)) =
    some (#v[1, 2, 3, 4, 5, 6, 7, 8], #v[9, 10, 11, 12], [.ok]) := by decide +kernel

/-- V8, T121: too few, and unavailable. -/
theorem test_vamCalLoad_refusals :
    (nextOf (exec (.vamCalLoad (.numbers [2000, 2000])) State.reset)).map (fun t => (t.vam, t.vamRet)) =
      some (VamRegs.reset, [.calTooFewNumbers]) ∧
    (nextOf (exec (.vamCalLoad .unavailable) State.reset)).map (fun t => (t.vam, t.vamRet)) =
      some (VamRegs.reset, [.calSourceUnavailable]) := by decide +kernel

/-- V9. -/
theorem test_vamCalUnload :
    (nextOf (exec .vamCalUnload
      { State.reset with vam := { VamRegs.reset with calV := #v[1, 2, 3, 4, 5, 6, 7, 8] } })).map
      (fun t => (t.vam, t.vamRet)) = some (VamRegs.reset, [.ok]) := by decide +kernel

/-- T11: `reset CNT` in mid-frame; the range register's value is not looked at. -/
theorem test_reset_counter :
    (nextOf (exec (.reset .cnt) (cntAt (.collectingNibble 2) 0x21#24 0x41#8 true))).map
      (fun t => (t.cnt.stage, t.cnt.acc, t.cnt.rangeValid, t.cntEv)) =
    some (.awaitSentinel, 0#24, false, []) := rfl

/-- 60_exceptions R305: with nothing to take, nothing happens. -/
theorem test_step_idle : nextOf (step State.reset) = some State.reset := by decide +kernel

/-! ### Witnesses: the hypotheses of each obligation can be met together, at the ends of their ranges -/

/-- A control byte in no row of 44_vameter_decoder R231: the tenth of the 128. -/
def unknownControl : Byte := 0x80#8 ||| BitVec.ofNat 8 (Config.vamCcChoice 9).val

theorem unknownControl_ne (k : Fin 9) : unknownControl ≠ Config.vamCc k := by
  intro h
  have h' := congrArg BitVec.toNat h
  rw [vamCc_toNat, unknownControl, controlByte_toNat] at h'
  have := congrArg Fin.val (Config.vamCcChoice.injective (Fin.ext (Nat.add_left_cancel h')))
  have h9 : (9 : Fin 128).val = 9 := rfl
  simp only [h9] at this
  omega

theorem unknownControl_cmd : vamCmdOf unknownControl = .none := by
  simp [vamCmdOf, Config.vamCcVRange, Config.vamCcVZero, Config.vamCcVGain, Config.vamCcVSample, Config.vamCcIRange2A,
    Config.vamCcIRange600mA, Config.vamCcIZero, Config.vamCcIGain, Config.vamCcISample, unknownControl_ne]

/-- Reset with one strobe waiting. -/
def withInput (x : Input) : State := { State.reset with inputs := [x] }

/-- A strobe for a unit that an instance holds, and for one that it does not; no strobe. -/
theorem witness_StepRunsSelectedOperation :
    (withInput (.cmd .genRequestState)).inputs = .cmd .genRequestState :: [] ∧
    inputUnit (.cmd .genRequestState) ∈ [UnitId.cnt, .gen] ∧ inputUnit (.cmd .genRequestState) ∉ [UnitId.cnt, .vam] ∧
    State.reset.inputs = [] := ⟨rfl, by decide, by decide, rfl⟩

theorem witness_CounterDispatch :
    State.reset.seq.cntStage = .awaitSentinel ∧ (0xC8#8 : Byte) ≠ 0xC9#8 ∧
    (cntAt .awaitRange 0#24 0#8 false).seq.cntStage = .awaitRange ∧
    (cntAt (.collectingNibble 0) 0#24 0#8 true).seq.cntStage = .collectingNibble (0 : Fin 5).castSucc ∧
    (cntAt (.collectingNibble 4) 0#24 0#8 true).seq.cntStage = .collectingNibble (4 : Fin 5).castSucc ∧
    (cntAt (.collectingNibble 5) 0#24 0#8 true).seq.cntStage = .collectingNibble 5 := by decide

/-- Outside a packet: `30` and `37`, and the bytes beside them; inside: the ninth and the tenth byte. -/
theorem witness_GeneratorDispatch :
    State.reset.seq.genAwaiting = false ∧ (0x30 ≤ (0x30#8 : Byte).toNat ∧ (0x30#8 : Byte).toNat ≤ 0x37) ∧
    (0x30 ≤ (0x37#8 : Byte).toNat ∧ (0x37#8 : Byte).toNat ≤ 0x37) ∧
    (∀ b ∈ [(0x2F#8 : Byte), 0x38#8], ¬(0x30 ≤ b.toNat ∧ b.toNat ≤ 0x37) ∧ b ≠ 0xD3#8 ∧ b ≠ 0xD2#8) ∧
    (genAt 8#4 GenRegs.reset.rxbuf).seq.genAwaiting = true ∧ (genAt 8#4 GenRegs.reset.rxbuf).seq.genRxlen.toNat < 9 ∧
    9 ≤ (genAt 9#4 GenRegs.reset.rxbuf).seq.genRxlen.toNat := by decide

/-- Every command, with the latch empty and full, on the bytes on either side of bit 7. -/
theorem witness_VameterDispatch :
    0x80 ≤ (0x80#8 : Byte).toNat ∧ (0x7F#8 : Byte).toNat < 0x80 ∧
    ∀ c ∈ [VamCmd.none, .vRange, .iRange2A, .iRange600mA, .vZero, .vGain, .iZero, .iGain, .vSample, .iSample],
      ∀ full ∈ [true, false],
        (vamAt c full 0#8).seq.vamCmd = c ∧ (vamAt c full 0#8).seq.vamLatchFull = full := by decide

theorem witness_CntSentinelOpensFrame :
    State.reset.cnt.stage = .awaitSentinel ∧ CntInv State.reset.cnt ∧
    (cntAt .awaitRange 0#24 0#8 false).cnt.stage = .awaitRange := ⟨rfl, rfl, rfl⟩

theorem witness_CntLostReportsByte : State.reset.cnt.stage = .awaitSentinel ∧ (0xC8#8 : Byte) ≠ 0xC9#8 := by decide

theorem witness_CntRangeStoresAndReportsChange :
    (cntAt .awaitRange 0#24 0x41#8 true).cnt.stage = .awaitRange := rfl

theorem witness_CntNibbleAccumulates :
    (cntAt (.collectingNibble 0) 0#24 0x41#8 true).cnt.stage = .collectingNibble (0 : Fin 5).castSucc ∧
    (cntAt (.collectingNibble 0) 0#24 0x41#8 true).cnt.acc.toNat < 16 ^ (0 : Fin 5).val ∧
    (cntAt (.collectingNibble 4) 0xFFFF#24 0x41#8 true).cnt.stage = .collectingNibble (4 : Fin 5).castSucc ∧
    (cntAt (.collectingNibble 4) 0xFFFF#24 0x41#8 true).cnt.acc.toNat < 16 ^ (4 : Fin 5).val := by decide

theorem witness_CntSixthNibbleConverts :
    (0x654321#24 : BitVec 24) = (cntAt (.collectingNibble 5) 0x054321#24 0x42#8 true).cnt.acc |||
      BitVec.ofNat 24 ((0x36#8 : Byte).toNat % 16 * 2 ^ 20) ∧
    (cntAt (.collectingNibble 5) 0x054321#24 0x42#8 true).cnt.stage = .collectingNibble 5 := by decide

theorem witness_CounterCommandsSend :
    (0#8 : Byte).toNat = (0 : Fin 3).val ∧ (2#8 : Byte).toNat = (2 : Fin 3).val ∧ 2 < (3#8 : Byte).toNat ∧
    2 < (255#8 : Byte).toNat := by decide

theorem witness_GenMemoryLoadedRequestsState : State.reset.gen.awaiting = false := rfl

theorem witness_GenAckAndLostReported :
    State.reset.gen.awaiting = false ∧
    ∀ b ∈ [(0x2F#8 : Byte), 0x38#8, 0xD1#8, 0xD4#8], ¬(0x30 ≤ b.toNat ∧ b.toNat ≤ 0x37) ∧ b ≠ 0xD2#8 ∧ b ≠ 0xD3#8 := by
  decide

theorem witness_GenPacketOpens : State.reset.gen.awaiting = false := rfl

theorem witness_GenPacketByteStored :
    ∀ n ∈ [(1#4 : BitVec 4), 8#4], (genAt n GenRegs.reset.rxbuf).gen.awaiting = true ∧
      1 ≤ (genAt n GenRegs.reset.rxbuf).gen.rxlen.toNat ∧ (genAt n GenRegs.reset.rxbuf).gen.rxlen.toNat ≤ 8 := by decide

theorem witness_GenDataOutsidePacket :
    (genAt 9#4 GenRegs.reset.rxbuf).gen.rxlen.toNat < 10 ∧ 10 ≤ (genAt 10#4 GenRegs.reset.rxbuf).gen.rxlen.toNat := by
  decide

/-- V4's packet, and one whose wave, filter and frequency bytes lie just beyond the ends of their ranges. -/
theorem witness_GenPacketCompletes :
    (let s := genAt 9#4 #v[0xD2#8, 0x01#8, 0xFF#8, 0xFF#8, 0xF6#8, 0x00#8, 0x80#8, 0x03#8, 0x02#8, 0x00#8]
     (waveCode .sine).toNat = (if s.gen.rxbuf[1].toNat ≤ 7 then s.gen.rxbuf[1].toNat else 0) ∧
     (filterCode .f600Hz).toNat = (if s.gen.rxbuf[7].toNat ≤ 3 then s.gen.rxbuf[7].toNat else 4) ∧
     0xFFFFF6 = s.gen.rxbuf[2].toNat * 65536 + s.gen.rxbuf[3].toNat * 256 + s.gen.rxbuf[4].toNat ∧
     (-10 : Int) = (if (0xFFFFF6 : Nat) < 8388608 then ((0xFFFFF6 : Nat) : Int) else ((0xFFFFF6 : Nat) : Int) - 16777216) ∧
     s.gen.awaiting = true ∧ s.gen.rxlen.toNat = 9) ∧
    (let s := genAt 9#4 #v[0xD2#8, 0x08#8, 0x80#8, 0x00#8, 0x00#8, 0x00#8, 0x80#8, 0x04#8, 0x02#8, 0x00#8]
     (waveCode .unknown).toNat = (if s.gen.rxbuf[1].toNat ≤ 7 then s.gen.rxbuf[1].toNat else 0) ∧
     (filterCode .unknown).toNat = (if s.gen.rxbuf[7].toNat ≤ 3 then s.gen.rxbuf[7].toNat else 4) ∧
     8388608 = s.gen.rxbuf[2].toNat * 65536 + s.gen.rxbuf[3].toNat * 256 + s.gen.rxbuf[4].toNat ∧
     (-8388608 : Int) = (if (8388608 : Nat) < 8388608 then ((8388608 : Nat) : Int) else ((8388608 : Nat) : Int) - 16777216) ∧
     s.gen.awaiting = true ∧ s.gen.rxlen.toNat = 9) := by
  decide

/-- T86 (a tie) as a rational, an irrational number of hertz, and T93. -/
theorem witness_GenSetFreqHzRoundsAndSends :
    ((78125 / 1179648 : ℚ) : ℝ) = 78125 / 1179648 ∧
    (Wave.sine, (9 : ℝ)) ∈ [(Wave.sine, (9 : ℝ)), (.triangle, 9), (.sawtooth, 6), (.square, 7)] ∧
    (1 / 2 : ℝ) = 16777216 * 9 * (78125 / 1179648) / 20000000 ∧
    (Irrational (Real.sqrt 2) ∧ ∃ q : ℚ, q = realOperand (Real.sqrt 2) .square) ∧
    Wave.serial ∈ [Wave.unknown, .bwVideo, .serial, .serialInverted] :=
  ⟨by norm_num, by simp, by norm_num, ⟨irrational_sqrt_two, _, rfl⟩, by simp⟩

theorem witness_VamControlCodesSelect :
    unknownControl ∉ [Config.vamCcVRange, Config.vamCcVZero, Config.vamCcVGain, Config.vamCcVSample,
      Config.vamCcIRange2A, Config.vamCcIRange600mA, Config.vamCcIZero, Config.vamCcIGain, Config.vamCcISample] := by
  simp [Config.vamCcVRange, Config.vamCcVZero, Config.vamCcVGain, Config.vamCcVSample, Config.vamCcIRange2A,
    Config.vamCcIRange600mA, Config.vamCcIZero, Config.vamCcIGain, Config.vamCcISample, unknownControl_ne]

theorem witness_VamCtrlAfterNoRun :
    ∀ c ∈ [VamCmd.none, .vRange, .iRange2A, .iRange600mA],
      (vamAt c false 0#8).vam.cmd ∈ [VamCmd.none, .vRange, .iRange2A, .iRange600mA] := by decide

/-- The two equations name abbreviations, and any state meets them; each of the four commands, empty run and not. -/
theorem witness_VamCtrlClosesReference :
    ∀ c ∈ [VamCmd.vZero, .vGain, .iZero, .iGain],
      (vamRun c 1024 2 0).vam.cmd = c ∧ (vamRun c 1024 2 0).vam.count ≠ 0 ∧ (vamRun c 0 0 0).vam.cmd = c ∧
        (vamRun c 0 0 0).vam.count = 0 := by decide

/-- A run to report, an empty run, and equal references (T104). -/
theorem witness_VamCtrlClosesVoltageRun :
    (vamRun .vSample 32768 2 1).vam.cmd = .vSample ∧ (vamRun .vSample 32768 2 1).vam.count ≠ 0 ∧
    (vamRun .vSample 32768 2 1).vam.vGain ≠ (vamRun .vSample 32768 2 1).vam.vZero ∧
    (vamRun .vSample 0 0 0).vam.count = 0 ∧ (vamAt .vSample false 0#8).vam.vGain = (vamAt .vSample false 0#8).vam.vZero := by
  decide +kernel

theorem witness_VamCtrlClosesCurrentRun :
    (vamRun .iSample 4 2 0).vam.cmd = .iSample ∧ (vamRun .iSample 4 2 0).vam.count ≠ 0 ∧
    (vamRun .iSample 4 2 0).vam.iGain = (vamRun .iSample 4 2 0).vam.iZero ∧
    (let r := { VamRegs.reset with cmd := .iSample, sum := 861107, count := 4, iNeg := 2, iZero := 201 / 2, iGain := 900 }
     r.cmd = .iSample ∧ r.count ≠ 0 ∧ r.iGain ≠ r.iZero) := by decide +kernel

/-- `'A'`, `'H'` and the bytes beside them. -/
theorem witness_VamVoltageRangeLetter :
    (0x7F#8 : Byte).toNat < 0x80 ∧ (vamAt .vRange false 0#8).vam.cmd = .vRange ∧
    (0x41#8 : Byte).toNat = 0x41 + (0 : Fin 8).val ∧ (0x48#8 : Byte).toNat = 0x41 + (7 : Fin 8).val ∧
    (0x40#8 : Byte).toNat < 0x41 ∧ 0x48 < (0x49#8 : Byte).toNat := by decide

/-- `'A'`, `'D'` and the bytes beside them, under both variants. -/
theorem witness_VamCurrentRangeLetter :
    (0x7F#8 : Byte).toNat < 0x80 ∧
    ((vamAt .iRange600mA false 0#8).vam.cmd = if true then .iRange600mA else .iRange2A) ∧
    ((vamAt .iRange2A false 0#8).vam.cmd = if false then .iRange600mA else .iRange2A) ∧
    (0x41#8 : Byte).toNat = 0x41 + (0 : Fin 4).val ∧ (0x44#8 : Byte).toNat = 0x41 + (3 : Fin 4).val ∧
    (0x40#8 : Byte).toNat < 0x41 ∧ 0x44 < (0x45#8 : Byte).toNat := by decide

theorem witness_VamFirstByteLatched :
    (0x7F#8 : Byte).toNat < 0x80 ∧
    (∀ c ∈ [VamCmd.vZero, .vGain, .iZero, .iGain],
      (vamAt c false 0#8).vam.cmd ∈ [VamCmd.vZero, .vGain, .iZero, .iGain] ∧ (vamAt c false 0#8).vam.latchFull = false) ∧
    ∀ c ∈ [VamCmd.vSample, .iSample],
      (vamAt c false 0#8).vam.cmd ∈ [VamCmd.vSample, .iSample] ∧ (vamAt c false 0#8).vam.latchFull = false := by decide

theorem witness_VamReferenceValueAdded :
    (0x7F#8 : Byte).toNat < 0x80 ∧
    ∀ c ∈ [VamCmd.vZero, .vGain, .iZero, .iGain],
      (vamAt c true 0x7F#8).vam.cmd ∈ [VamCmd.vZero, .vGain, .iZero, .iGain] ∧ (vamAt c true 0x7F#8).vam.latchFull = true := by
  decide

/-- Raw 1023, the largest. -/
theorem witness_VamSampleDeviationSquared :
    (1023 : ℚ) = (((0x7F#8 : Byte).toNat % 16 * 64 + (vamAt .vSample true 0x7F#8).vam.sampleLow.toNat % 64 : Nat) : ℚ) ∧
    (0x7F#8 : Byte).toNat < 0x80 ∧ (vamAt .vSample true 0x7F#8).vam.cmd = .vSample ∧
    (vamAt .vSample true 0x7F#8).vam.latchFull = true ∧ (vamAt .iSample true 0x7F#8).vam.cmd = .iSample ∧
    (vamAt .iSample true 0x7F#8).vam.latchFull = true := by decide +kernel

theorem witness_VamStrayReportsByte : (0x7F#8 : Byte).toNat < 0x80 ∧ State.reset.vam.cmd = .none := by decide

theorem witness_SampleValueIsMagnitude : 0 < 1 ∧ (768 : ℚ) ≠ 512 ∧ (512 : ℚ) = 512 := by decide +kernel

theorem witness_CalLoadAllOrNothing :
    (List.replicate 11 (2000 : CalFactor)).length < 12 ∧ 12 ≤ (List.replicate 12 (2000 : CalFactor)).length := by decide

theorem witness_CalUnloadRestoresDefaults :
    ∃ t u, exec .vamCalUnload State.reset = .next t ∧ exec .vamCalUnload t = .next u := ⟨_, _, rfl, rfl⟩

theorem witness_CommandsTouchNoRegister : (Instr.genSetFreqHz 1000 .serial).kind = .tx ∧ (Instr.cntSetMode 3#8).kind = .tx :=
  ⟨rfl, rfl⟩

/-- A load, a reset and a packet that change what the statement names. -/
theorem witness_CalibrationAndConfigurationWriters :
    (∃ t, exec (.vamCalLoad (.numbers (List.replicate 12 0))) State.reset = .next t ∧
      calibrationOf t.vam ≠ calibrationOf State.reset.vam) ∧
    ∃ t, exec (.genLast 0#8) (genAt 9#4 (Vector.replicate 10 1#8)) = .next t ∧
      configOf t.gen ≠ configOf (genAt 9#4 (Vector.replicate 10 1#8)).gen :=
  ⟨⟨_, rfl, by decide⟩, ⟨_, rfl, by decide⟩⟩

theorem witness_InstrumentIsConfined : UnitId.vam ≠ .cnt ∧ UnitId.vam ≠ .gen ∧ UnitId.cnt ≠ .vam := by decide

/-- The last byte of T112: two events in one step; and an event with a byte. -/
theorem witness_AtMostTwoEventsPerStep :
    (∃ t, exec (.vamCtrl unknownControl) (vamRun .vSample 32768 2 1) = .next t ∧
      eventCount t = eventCount (vamRun .vSample 32768 2 1) + 2) ∧
    ∃ t, exec (.genMemld 7#3) State.reset = .next t ∧ eventCount State.reset < eventCount t ∧
      sentCount State.reset < sentCount t := by
  refine ⟨⟨_, rfl, ?_⟩, _, rfl, by decide, by decide⟩
  rw [selectCommand_clearRun, unknownControl_cmd]
  decide +kernel

/-- An instance without the VAmeter, with a strobe for each unit it holds. -/
theorem witness_NoInputStopsTheMachine :
    ∀ x ∈ ({ State.reset with inputs := [.rx .cnt 0xC9#8, .cmd .genRequestState] } : State).inputs,
      inputUnit x ∈ [UnitId.cnt, .gen] := by decide

/-- The ends of the packet counter, outside a packet, and an operation with its own byte. -/
theorem witness_EveryByteSelectsOneOperation :
    (∀ n ∈ [(1#4 : BitVec 4), 9#4], 1 ≤ (genAt n GenRegs.reset.rxbuf).seq.genRxlen.toNat ∧
      (genAt n GenRegs.reset.rxbuf).seq.genRxlen.toNat ≤ 9) ∧
    (Instr.genAck).kind = .rx ∧ (Instr.genAck).unit = .gen ∧ State.reset.seq.selects .genAck ∧
    (Instr.genAck).wf = true ∧ encode .genAck = [0xD3#8] := by
  refine ⟨by decide, rfl, rfl, rfl, rfl, rfl⟩

theorem witness_NoiseReportedByteByByte :
    CntInv State.reset.cnt ∧ State.reset.cnt.stage = .awaitSentinel ∧
    (∀ b ∈ [(0x00#8 : Byte), 0xFF#8, 0xC8#8], b ≠ 0xC9#8) ∧ State.reset.gen.awaiting = false ∧
    (∀ b ∈ [(0x2F#8 : Byte), 0x38#8, 0xD1#8, 0xD4#8], genKnown b = false) ∧ State.reset.vam.cmd = .none ∧
    (∀ b ∈ [(0x00#8 : Byte), 0x7F#8], b.toNat < 0x80) := by
  refine ⟨rfl, rfl, by decide, rfl, by decide, rfl, by decide⟩

theorem witness_RunConsumesBytesInOrder :
    ({ State.reset with inputs := [.rx .cnt 0xC9#8, .rx .cnt 0x41#8, .cmd .genRequestState] } : State).inputs =
      [0xC9#8, 0x41#8].map (.rx .cnt) ++ [.cmd .genRequestState] := rfl

theorem witness_CommandsSendTheirEncoding :
    (Instr.cntSetTrigger 5#32).kind = .tx ∧ (Instr.cntSetTrigger 5#32).unit = .cnt ∧
    (Instr.genSave 9#8).kind = .tx ∧ (Instr.genSave 9#8).unit = .gen := by decide

/-- The two ends of the range, and a packet that carries the lower one. -/
theorem witness_SignedFrequencyRoundTrip :
    ((-8388608 : Int) ≤ -8388608 ∧ (-8388608 : Int) ≤ 8388607) ∧ ((-8388608 : Int) ≤ 8388607 ∧ (8388607 : Int) ≤ 8388607) ∧
    (let s := genAt 9#4 #v[0xD2#8, 0x01#8, 0x80#8, 0x00#8, 0x00#8, 0x00#8, 0x80#8, 0x03#8, 0x02#8, 0x00#8]
     s.gen.rxbuf[2] = 0x80#8 ∧ s.gen.rxbuf[3] = 0x00#8 ∧ s.gen.rxbuf[4] = 0x00#8 ∧ ∃ t, exec (.genLast 0#8) s = .next t) :=
  ⟨by decide, by decide, rfl, rfl, rfl, _, rfl⟩

/-- The ends of each operand's range. -/
theorem witness_SentCommandsReadBack :
    ∀ i ∈ [Instr.cntSetTrigger 31#32, .cntSetTrigger (BitVec.ofInt 32 (-31)), .genSave 0#8, .genSave 7#8, .genLoad 7#8,
      .genSetWave 1#8, .genSetWave 8#8, .genSetFilter 3#8, .genSetFrequency 0x00FFFFFF#32, .genSetAmplitude 255#8,
      .genSetOffset 255#8, .genRequestState], i.encodable = true := by decide

/-- In mid-frame with the largest accumulator, in mid-packet and in mid-run, with a byte waiting. -/
def busy : State :=
  { cntAt (.collectingNibble 5) 0x0FFFFF#24 0x41#8 true with
    gen := { GenRegs.reset with awaiting := true, rxlen := 9#4, rxbuf := Vector.replicate 10 0xD2#8 }
    vam := { VamRegs.reset with cmd := .vSample, sum := 16384, count := 1, vNeg := 1, latchFull := true,
                                vZero := 1023, vGain := 768 }
    inputs := [.rx .gen 0xD2#8] }

theorem witness_StepKeepsInvariants : Inv busy ∧ ∃ t, step busy = .next t := by
  refine ⟨⟨⟨by decide, rfl⟩, ⟨by decide, by decide, by decide⟩, ?_⟩, _, rfl⟩
  refine ⟨by decide, by decide, by decide, by decide, by decide, by decide, ?_, ?_, ?_, ?_, ?_, by decide⟩ <;>
    simp only [busy, inRawRange] <;> norm_num [VamRegs.reset]

theorem witness_UnitsCommute :
    inputUnit (.rx .gen 0x32#8) ≠ inputUnit (.cmd (.reset .cnt)) ∧
    ∃ m t, inputStep (.rx .gen 0x32#8) busy = .next m ∧ inputStep (.cmd (.reset .cnt)) m = .next t :=
  ⟨by decide, _, _, rfl, rfl⟩

/-- The largest value (T5). -/
theorem witness_CounterFrameDecodes :
    State.reset.cnt.stage = .awaitSentinel ∧ State.reset.cnt.acc = 0#24 ∧
    16777215 = (0xFF#8 : Byte).toNat % 16 + (0xFF#8 : Byte).toNat % 16 * 16 + (0xFF#8 : Byte).toNat % 16 * 256 +
      (0xFF#8 : Byte).toNat % 16 * 4096 + (0xFF#8 : Byte).toNat % 16 * 65536 + (0xFF#8 : Byte).toNat % 16 * 1048576 := by
  decide

theorem witness_GeneratorPacketDecodes : State.reset.gen.awaiting = false := rfl

/-- T103: raws 1023 and 0. -/
theorem witness_ReferenceRunStoresMean :
    [(1023#10 : BitVec 10), 0#10] ≠ [] ∧ 0x80 ≤ (0x80#8 : Byte).toNat ∧ (vamRun .vZero 0 0 0).vam.latchFull = false ∧
    (vamRun .vZero 0 0 0).vam.sum = 0 ∧ (vamRun .vZero 0 0 0).vam.count = 0 ∧
    (1023 / 2 : ℚ) = (([(1023#10 : BitVec 10), 0#10].map fun v => (v.toNat : ℚ)).sum) /
      ([(1023#10 : BitVec 10), 0#10].length : ℚ) ∧
    isReferenceCmd (vamRun .vZero 0 0 0).vam.cmd = true := by decide +kernel

/-- T109's second run, three raws 384 and one 640 against 512, for both quantities; the closing byte an unknown one. -/
theorem witness_SampleRunEmitsSample :
    (∀ q : Quantity, ∃ s : State, s.vam.cmd = (match q with | .voltage => .vSample | .current => .iSample) ∧
      s.vam.vNeg = 0 ∧ s.vam.iNeg = 0 ∧ s.vam.latchFull = false ∧ s.vam.sum = 0 ∧ s.vam.count = 0 ∧
      s.vam.zeroOf q = 512 ∧ s.vam.gainOf q = 768) ∧
    [(384#10 : BitVec 10), 384#10, 384#10, 640#10] ≠ [] ∧ 0x80 ≤ unknownControl.toNat ∧
    vamCmdOf unknownControl = .none ∧ (768 : ℚ) ≠ 512 ∧
    3 = ([(384#10 : BitVec 10), 384#10, 384#10, 640#10].filter fun v => decide ((v.toNat : ℚ) < 512)).length ∧
    Polarity.dcNegative = (if 3 ≤ 2 then .dcPositive else if (4 : Int) - 2 < (3 : Nat) then .dcNegative else .ac) := by
  refine ⟨fun q => ?_, by decide, ?_, unknownControl_cmd, by norm_num, by decide +kernel, by decide⟩
  · cases q with
    | voltage => exact ⟨vamRun .vSample 0 0 0, rfl, rfl, rfl, rfl, rfl, rfl, rfl, rfl⟩
    | current =>
      exact ⟨{ State.reset with vam := { VamRegs.reset with cmd := .iSample, iZero := 512, iGain := 768 } },
        rfl, rfl, rfl, rfl, rfl, rfl, rfl, rfl⟩
  · rw [unknownControl, controlByte_toNat]
    omega

end Sys2Proof.Tests
end

section
/-! What the decoder answers: every strobe selects a well-formed operation of the kind and the unit it is strobed for
(30_encoding R130, R131), and `GEN.DATA` only where the receive buffer has an element for its byte (42 R178, R184). -/

namespace Sys2Proof

/-- Whatever the counter's stage, a byte selects a well-formed receive operation of the counter. -/
theorem decodeCnt_wf_kind_unit (stage : CntStage) (b : Byte) :
    (decodeCnt stage b).wf = true ∧ (decodeCnt stage b).kind = .rx ∧ (decodeCnt stage b).unit = .cnt := by
  cases stage with
  | awaitSentinel =>
    by_cases h : b = Config.cntSentinel <;> simp [decodeCnt, Instr.wf, Instr.kind, Instr.unit, h]
  | awaitRange => exact ⟨rfl, rfl, rfl⟩
  | collectingNibble n =>
    by_cases h : n.val < 5 <;> simp [decodeCnt, Instr.wf, Instr.kind, Instr.unit, h]

/-- A byte that opens neither a notification nor a packet is one that `GEN.LOST` takes. -/
theorem genKnown_eq_false_iff (b : Byte) :
    genKnown b = false ↔
      ¬(Config.genMemFirst ≤ b ∧ b ≤ Config.genMemLast) ∧ b ≠ Config.genAckByte ∧ b ≠ Config.genSentinel := by
  simp only [genKnown, Bool.or_eq_false_iff, beq_eq_false_iff_ne, and_assoc]
  rw [← Bool.not_eq_true, Bool.and_eq_true, decide_eq_true_iff, decide_eq_true_iff]

/-- In and out of a packet, a byte selects a well-formed receive operation of the generator. -/
theorem decodeGen_wf_kind_unit (awaiting : Bool) (rxlen : BitVec 4) (b : Byte) :
    (decodeGen awaiting rxlen b).wf = true ∧ (decodeGen awaiting rxlen b).kind = .rx ∧
      (decodeGen awaiting rxlen b).unit = .gen := by
  unfold decodeGen
  split_ifs with hawait hmem hack hpkt hlen
  · exact ⟨rfl, rfl, rfl⟩
  · exact ⟨rfl, rfl, rfl⟩
  · exact ⟨rfl, rfl, rfl⟩
  · have unknown : genKnown b = false := (genKnown_eq_false_iff b).2 ⟨hmem, hack, hpkt⟩
    exact ⟨by rw [Instr.wf, unknown, Bool.not_false], rfl, rfl⟩
  · exact ⟨rfl, rfl, rfl⟩
  · exact ⟨rfl, rfl, rfl⟩

/-- Bit 7 alone separates control from data bytes, so a byte selects a well-formed receive operation of the VAmeter under
every command. -/
theorem decodeVam_wf_kind_unit (cmd : VamCmd) (latchFull : Bool) (b : Byte) :
    (decodeVam cmd latchFull b).wf = true ∧ (decodeVam cmd latchFull b).kind = .rx ∧
      (decodeVam cmd latchFull b).unit = .vam := by
  unfold decodeVam
  split
  case isTrue control => exact ⟨control, rfl, rfl⟩
  case isFalse control =>
    have data : (!b.msb) = true := by simpa using control
    cases cmd with
    | none | vRange | iRange2A | iRange600mA => exact ⟨data, rfl, rfl⟩
    | vZero | vGain | iZero | iGain | vSample | iSample => cases latchFull <;> exact ⟨data, rfl, rfl⟩

/-- A received byte selects a well-formed receive operation of the unit it is received on. -/
theorem decodeRx_wf_kind_unit (q : SeqState) (u : UnitId) (b : Byte) :
    (decodeRx q u b).wf = true ∧ (decodeRx q u b).kind = .rx ∧ (decodeRx q u b).unit = u := by
  cases u with
  | cnt => exact decodeCnt_wf_kind_unit _ b
  | gen => exact decodeGen_wf_kind_unit _ _ b
  | vam => exact decodeVam_wf_kind_unit _ _ b

/-- Every command is well formed: its operands have the domains their types say. -/
theorem decodeCommand_wf (c : Command) : (decodeCommand c).wf = true := by
  cases c <;> rfl

/-- No command is a receive operation. -/
theorem decodeCommand_kind_ne_rx (c : Command) : (decodeCommand c).kind ≠ .rx := by
  cases c <;> simp [decodeCommand, Instr.kind]

/-- Every strobe selects a well-formed operation. -/
theorem decode_wf (q : SeqState) (x : Input) : (decode q x).wf = true := by
  cases x with
  | rx u b => exact (decodeRx_wf_kind_unit q u b).1
  | cmd c => exact decodeCommand_wf c

/-- Every strobe selects an operation of the unit it acts on. -/
theorem decode_unit (q : SeqState) (x : Input) : (decode q x).unit = inputUnit x := by
  cases x with
  | rx u b => exact (decodeRx_wf_kind_unit q u b).2.2
  | cmd c => rfl

/-- Inside a packet `GEN.DATA` is selected only while `GEN.rxlen` is below 9. -/
theorem decodeGen_eq_genData {awaiting : Bool} {rxlen : BitVec 4} {b d : Byte}
    (h : decodeGen awaiting rxlen b = .genData d) : rxlen.toNat < 9 := by
  unfold decodeGen at h
  split_ifs at h with hawait hmem hack hpkt hlen
  exact (Laws.rxlen_lt rxlen).1 hlen

/-- Whatever selects `GEN.DATA`, `GEN.rxlen` is below 9. -/
theorem decode_eq_genData {q : SeqState} {x : Input} {d : Byte} (h : decode q x = .genData d) :
    q.genRxlen.toNat < 9 := by
  have hunit : inputUnit x = .gen := by rw [← decode_unit q x, h]; rfl
  cases x with
  | cmd c =>
    have hkind : (decodeCommand c).kind = .rx := congrArg Instr.kind h
    exact absurd hkind (decodeCommand_kind_ne_rx c)
  | rx u b =>
    obtain rfl : u = .gen := hunit
    exact decodeGen_eq_genData h

end Sys2Proof
end

section
/-! No operation looks at the strobes still waiting (20_memory R71): executing an operation commutes with replacing
them. Whether it completes does not depend on them either. -/

namespace Sys2Proof.Machine

/-- The outcome with its next state changed by `f`; a fault or a refusal stays what it is. -/
def mapNext (f : State → State) : Host.Outcome State Fault Refusal → Host.Outcome State Fault Refusal
  | .next t => .next (f t)
  | .fault r => .fault r
  | .refused r => .refused r

@[simp] theorem mapNext_next (f : State → State) (t : State) : mapNext f (.next t) = .next (f t) := rfl

@[simp] theorem setInputs_setInputs (s : State) (l m : List Input) : (s.setInputs l).setInputs m = s.setInputs m := rfl

@[simp] theorem setInputs_self (s : State) : s.setInputs s.inputs = s := rfl

/-! ### The shared operations leave the waiting strobes alone -/

variable (s : State) (l : List Input)

theorem resetUnit_setInputs (u : UnitId) : (s.setInputs l).resetUnit u = (s.resetUnit u).setInputs l := by
  cases u <;> rfl

theorem reportCounterValue_setInputs (v : CounterValue) :
    reportCounterValue v (s.setInputs l) = (reportCounterValue v s).setInputs l := by
  cases v <;> rfl

theorem reportSample_setInputs (q : Quantity) :
    reportSample q (s.setInputs l) = (reportSample q s).setInputs l := by
  by_cases run : 0 < s.vam.count
  · simp only [reportSample, setInputs_vam, run, if_true]
    split <;> rfl
  · simp only [reportSample, setInputs_vam, run, if_false]

theorem finalise_setInputs : finalise (s.setInputs l) = (finalise s).setInputs l := by
  simp only [finalise, finaliseSample, setInputs_vam, reportSample_setInputs]
  split <;> rfl

theorem selectCommand_setInputs (b : Byte) :
    selectCommand b (s.setInputs l) = (selectCommand b s).setInputs l := by
  simp only [selectCommand]
  split <;> rfl

/-! ### The operations -/

theorem execCntRange_setInputs (b : Byte) :
    execCntRange b (s.setInputs l) = mapNext (·.setInputs l) (execCntRange b s) := by
  simp only [execCntRange, setInputs_cnt]
  by_cases changed : cntRangeChanged s.cnt b <;> simp only [changed] <;> rfl

theorem execCntNib5_setInputs (b : Byte) :
    execCntNib5 b (s.setInputs l) = mapNext (·.setInputs l) (execCntNib5 b s) := by
  simp only [execCntNib5, setInputs_cnt, reportCounterValue_setInputs]
  rfl

theorem execCntSetMode_setInputs (m : Byte) :
    execCntSetMode m (s.setInputs l) = mapNext (·.setInputs l) (execCntSetMode m s) := by
  unfold execCntSetMode
  split <;> rfl

/-- Where the receive buffer has an element at `GEN.rxlen`, `GEN.DATA` stores its byte there (42 R173). -/
theorem execGenData_of_lt (b : Byte) (room : s.gen.rxlen.toNat < 10) :
    execGenData b s =
      .next
        (s.setGen
          { s.gen with
            rxbuf := memWrite s.gen.rxbuf ⟨s.gen.rxlen.toNat, room⟩ b
            rxlen := s.gen.rxlen + 1#4 }) :=
  dif_pos room

/-- Where it has none, `GEN.DATA` stops (10_state R35; log 14). -/
theorem execGenData_of_not_lt (b : Byte) (full : ¬s.gen.rxlen.toNat < 10) : execGenData b s = .fault .rxbufIndex :=
  dif_neg full

theorem execGenData_setInputs (b : Byte) :
    execGenData b (s.setInputs l) = mapNext (·.setInputs l) (execGenData b s) := by
  by_cases room : s.gen.rxlen.toNat < 10
  · rw [execGenData_of_lt s b room, execGenData_of_lt (s.setInputs l) b room]
    rfl
  · rw [execGenData_of_not_lt s b room, execGenData_of_not_lt (s.setInputs l) b room]
    rfl

theorem execGenSetWave_setInputs (wave : Byte) :
    execGenSetWave wave (s.setInputs l) = mapNext (·.setInputs l) (execGenSetWave wave s) := by
  unfold execGenSetWave
  split <;> rfl

theorem execGenSetFreqHz_setInputs (hz : ℚ) (wave : Wave) :
    execGenSetFreqHz hz wave (s.setInputs l) = mapNext (·.setInputs l) (execGenSetFreqHz hz wave s) := by
  unfold execGenSetFreqHz
  split <;> rfl

theorem execVamCtrl_setInputs (b : Byte) :
    execVamCtrl b (s.setInputs l) = mapNext (·.setInputs l) (execVamCtrl b s) := by
  have hclear : clearRun ((finalise s).setInputs l) = (clearRun (finalise s)).setInputs l := rfl
  rw [execVamCtrl, execVamCtrl, mapNext_next, finalise_setInputs, hclear, selectCommand_setInputs]

theorem execVamVrange_setInputs (b : Byte) :
    execVamVrange b (s.setInputs l) = mapNext (·.setInputs l) (execVamVrange b s) := by
  simp only [execVamVrange, setInputs_vam]
  split
  next idx _ => by_cases changed : vRangeChanged s.vam idx <;> simp only [changed] <;> rfl
  next => rfl

theorem execVamIrange_setInputs (hw : Bool) (b : Byte) :
    execVamIrange hw b (s.setInputs l) = mapNext (·.setInputs l) (execVamIrange hw b s) := by
  simp only [execVamIrange, setInputs_vam]
  split
  next idx _ => by_cases changed : iRangeChanged s.vam hw idx <;> simp only [changed] <;> rfl
  next => rfl

theorem execVamCalLoad_setInputs (src : CalSource) :
    execVamCalLoad src (s.setInputs l) = mapNext (·.setInputs l) (execVamCalLoad src s) := by
  cases src with
  | unavailable => rfl
  | numbers factors =>
    simp only [execVamCalLoad]
    split <;> rfl

/-- Executing an operation commutes with replacing the waiting strobes. -/
theorem exec_setInputs (i : Instr) : exec i (s.setInputs l) = mapNext (·.setInputs l) (exec i s) := by
  cases i with
  | cntRange b => exact execCntRange_setInputs s l b
  | cntNib5 b => exact execCntNib5_setInputs s l b
  | cntSetMode m => exact execCntSetMode_setInputs s l m
  | genData b => exact execGenData_setInputs s l b
  | genSetWave wave => exact execGenSetWave_setInputs s l wave
  | genSetFreqHz hz wave => exact execGenSetFreqHz_setInputs s l hz wave
  | vamCtrl b => exact execVamCtrl_setInputs s l b
  | vamVrange b => exact execVamVrange_setInputs s l b
  | vamIrange hw b => exact execVamIrange_setInputs s l hw b
  | vamCalLoad src => exact execVamCalLoad_setInputs s l src
  | reset u => exact congrArg Host.Outcome.next (resetUnit_setInputs s l u)
  | cntSent | cntLost | cntNib | cntSetTrigger | genMemld | genAck | genPkt | genLost | genLast | genSave | genLoad
  | genSetFilter | genSetAmplitude | genSetOffset | genSetFrequency | genRequestState | vamReflo | vamRefhi | vamSmplo
  | vamSmphi | vamStray | vamCalUnload => rfl

/-- `GEN.DATA` is the one operation that can stop, when its index is outside the receive buffer (10_state R35). -/
theorem exec_completes (i : Instr) (h : ∀ d, i = .genData d → s.gen.rxlen.toNat < 10) : ∃ t, exec i s = .next t := by
  cases i with
  | genData d => exact ⟨_, execGenData_of_lt s d (h d rfl)⟩
  | cntSetMode m =>
    show ∃ t, execCntSetMode m s = .next t
    unfold execCntSetMode
    split <;> exact ⟨_, rfl⟩
  | genSetFreqHz hz wave =>
    show ∃ t, execGenSetFreqHz hz wave s = .next t
    unfold execGenSetFreqHz
    split <;> exact ⟨_, rfl⟩
  | vamVrange b =>
    show ∃ t, execVamVrange b s = .next t
    unfold execVamVrange
    split <;> exact ⟨_, rfl⟩
  | vamIrange hw b =>
    show ∃ t, execVamIrange hw b s = .next t
    unfold execVamIrange
    split <;> exact ⟨_, rfl⟩
  | vamCalLoad src =>
    show ∃ t, execVamCalLoad src s = .next t
    unfold execVamCalLoad
    split
    · exact ⟨_, rfl⟩
    · split <;> exact ⟨_, rfl⟩
  | cntSent | cntLost | cntRange | cntNib | cntNib5 | cntSetTrigger | genMemld | genAck | genPkt | genLost | genLast
  | genSave | genLoad | genSetWave | genSetFilter | genSetAmplitude | genSetOffset | genSetFrequency | genRequestState
  | vamCtrl | vamReflo | vamRefhi | vamSmplo | vamSmphi | vamStray | vamCalUnload | reset => exact ⟨_, rfl⟩

end Sys2Proof.Machine
end

section
/-! One strobe, and the step that takes it. -/

namespace Sys2Proof.Machine

/-- What a strobe does commutes with replacing the strobes that wait behind it. -/
theorem inputStep_setInputs (x : Input) (s : State) (l : List Input) :
    inputStep x (s.setInputs l) = mapNext (·.setInputs l) (inputStep x s) :=
  exec_setInputs s l (decode s.seq x)

/-- Every strobe completes in every state and leaves the strobes behind it waiting. -/
theorem inputStep_completes (x : Input) (s : State) : ∃ t, inputStep x s = .next t ∧ t.inputs = s.inputs := by
  have hroom : ∀ d, decode s.seq x = .genData d → s.gen.rxlen.toNat < 10 := fun d h =>
    Nat.lt_succ_of_lt (decode_eq_genData h)
  obtain ⟨t, ht⟩ := exec_completes s (decode s.seq x) hroom
  have hset : inputStep x s = .next (t.setInputs s.inputs) :=
    (inputStep_setInputs x s s.inputs).trans (congrArg _ ht)
  exact ⟨_, hset, rfl⟩

/-- A machine without the strobed unit refuses the strobe. -/
theorem stepWith_absent (units : List UnitId) (s : State) (x : Input) (rest : List Input) (h : s.inputs = x :: rest)
    (hu : inputUnit x ∉ units) : stepWith units s = .refused (.unitAbsent (inputUnit x)) := by
  simp only [stepWith, h, if_neg hu]

/-- With no strobe to take nothing happens, whichever units the machine holds. -/
theorem stepWith_nil (units : List UnitId) (s : State) (h : s.inputs = []) : stepWith units s = .next s := by
  simp only [stepWith, h]

/-- A completed step is followed by the rest of the run. -/
theorem run_succ_of_step (k : Nat) (s t : State) (h : step s = .next t) :
    Sys2Proof.core.run (k + 1) s = Sys2Proof.core.run k t := by
  have hstep : Sys2Proof.core.step s = .next t := h
  simp only [Host.Core.run, hstep]

/-- A received byte that completes is followed by the rest of the bytes. -/
theorem feed_cons_of_inputStep (u : UnitId) (b : Byte) (bs : List Byte) (s t : State)
    (h : inputStep (.rx u b) s = .next t) : feed u (b :: bs) s = feed u bs t := by
  rw [feed, h]

/-- The step on the first waiting byte reaches the state that the byte alone leads to, the later strobes waiting. -/
theorem step_eq_next_of_inputStep (s t : State) (x : Input) (rest l : List Input) (h : s.inputs = x :: l)
    (ht : inputStep x (s.setInputs rest) = .next t) : step s = .next (t.setInputs l) := by
  rw [step_cons s x l h, ← setInputs_setInputs s rest l, inputStep_setInputs, ht, mapNext_next]

end Sys2Proof.Machine
end

section
/-! The obligations about one step and about a run of one unit's bytes (00_scope R13, 20_memory R70, R71). -/

namespace Sys2Proof.Machine

/-- A run on a unit's waiting bytes is `feed`, by induction on the bytes: the byte in front completes, and what it does
does not depend on the strobes behind it. -/
theorem run_eq_feed (u : UnitId) (bs : List Byte) (rest : List Input) (s : State)
    (h : s.inputs = bs.map (.rx u) ++ rest) :
    ∃ t, feed u bs (s.setInputs rest) = .next t ∧ t.inputs = rest ∧ Sys2Proof.core.run bs.length s = .next t := by
  induction bs generalizing s with
  | nil =>
    obtain rfl : s.inputs = rest := h
    exact ⟨s, rfl, rfl, rfl⟩
  | cons b bs ih =>
    obtain ⟨m, hm, hrest⟩ := inputStep_completes (.rx u b) (s.setInputs rest)
    have hself : m.setInputs rest = m := by rw [← setInputs_inputs s rest, ← hrest, setInputs_self]
    have hstep : step s = .next (m.setInputs (bs.map (.rx u) ++ rest)) :=
      step_eq_next_of_inputStep s m (.rx u b) rest _ h hm
    obtain ⟨t, hfeed, hinputs, hrun⟩ := ih (m.setInputs (bs.map (.rx u) ++ rest)) rfl
    rw [setInputs_setInputs, hself] at hfeed
    refine ⟨t, ?_, hinputs, ?_⟩
    · rw [feed_cons_of_inputStep u b bs _ m hm, hfeed]
    · rw [List.length_cons, run_succ_of_step _ s _ hstep, hrun]

/-- Settles O48: `run_eq_feed`. -/
theorem runConsumesBytesInOrder : Obligations.RunConsumesBytesInOrder :=
  run_eq_feed

/-- Settles O2: the decoder answers only well-formed operations, and each branch of `stepWith` has its equation. -/
theorem stepRunsSelectedOperation : Obligations.StepRunsSelectedOperation := by
  unfold Obligations.StepRunsSelectedOperation
  refine ⟨fun s x rest h => ⟨decode_wf s.seq x, step_cons s x rest h, fun units => ⟨?present, ?absent⟩⟩,
    fun s units h => ⟨step_nil s h, stepWith_nil units s h⟩⟩
  case present => exact stepWith_cons units s x rest h
  case absent => exact stepWith_absent units s x rest h

end Sys2Proof.Machine
end

section
/-! No operation reads what a unit has put out (10_state R21 (b), 20_memory R71): executing an operation commutes with
putting earlier outputs in front of the recorded ones. -/

namespace Sys2Proof.Machine

/-- The state with earlier outputs in front of those it has recorded. -/
def State.withEarlier (s : State) (c : List CntOut) (g : List GenOut) (v : List VamOut) : State :=
  { s with cntOut := c ++ s.cntOut, genOut := g ++ s.genOut, vamOut := v ++ s.vamOut }

variable (s : State) (c : List CntOut) (g : List GenOut) (v : List VamOut)

@[simp] theorem withEarlier_cnt : (s.withEarlier c g v).cnt = s.cnt := rfl
@[simp] theorem withEarlier_gen : (s.withEarlier c g v).gen = s.gen := rfl
@[simp] theorem withEarlier_vam : (s.withEarlier c g v).vam = s.vam := rfl

/-! ### The state's operations only append -/

@[simp] theorem setCnt_withEarlier (r : CntRegs) :
    (s.withEarlier c g v).setCnt r = (s.setCnt r).withEarlier c g v := rfl
@[simp] theorem setGen_withEarlier (r : GenRegs) :
    (s.withEarlier c g v).setGen r = (s.setGen r).withEarlier c g v := rfl
@[simp] theorem setVam_withEarlier (r : VamRegs) :
    (s.withEarlier c g v).setVam r = (s.setVam r).withEarlier c g v := rfl

@[simp] theorem emitCnt_withEarlier (e : CntEvent) :
    (s.withEarlier c g v).emitCnt e = (s.emitCnt e).withEarlier c g v := by
  simp [State.emitCnt, State.withEarlier]
@[simp] theorem emitGen_withEarlier (e : GenEvent) :
    (s.withEarlier c g v).emitGen e = (s.emitGen e).withEarlier c g v := by
  simp [State.emitGen, State.withEarlier]
@[simp] theorem emitVam_withEarlier (e : VamEvent) :
    (s.withEarlier c g v).emitVam e = (s.emitVam e).withEarlier c g v := by
  simp [State.emitVam, State.withEarlier]

@[simp] theorem sendCnt_withEarlier (bytes : List Byte) :
    (s.withEarlier c g v).sendCnt bytes = (s.sendCnt bytes).withEarlier c g v := by
  simp [State.sendCnt, State.withEarlier]
@[simp] theorem sendGen_withEarlier (bytes : List Byte) :
    (s.withEarlier c g v).sendGen bytes = (s.sendGen bytes).withEarlier c g v := by
  simp [State.sendGen, State.withEarlier]

@[simp] theorem retCnt_withEarlier (st : Status) :
    (s.withEarlier c g v).retCnt st = (s.retCnt st).withEarlier c g v := by
  simp [State.retCnt, State.withEarlier]
@[simp] theorem retGen_withEarlier (st : Status) :
    (s.withEarlier c g v).retGen st = (s.retGen st).withEarlier c g v := by
  simp [State.retGen, State.withEarlier]
@[simp] theorem retVam_withEarlier (st : Status) :
    (s.withEarlier c g v).retVam st = (s.retVam st).withEarlier c g v := by
  simp [State.retVam, State.withEarlier]

@[simp] theorem raise_withEarlier (e : UnitError) :
    (s.withEarlier c g v).raise e = (s.raise e).withEarlier c g v := by
  cases e <;> simp [State.raise]

theorem resetUnit_withEarlier (u : UnitId) :
    (s.withEarlier c g v).resetUnit u = (s.resetUnit u).withEarlier c g v := by
  cases u <;> rfl

/-! ### The shared operations -/

theorem reportCounterValue_withEarlier (value : CounterValue) :
    reportCounterValue value (s.withEarlier c g v) = (reportCounterValue value s).withEarlier c g v := by
  cases value with
  | hertz x => exact emitCnt_withEarlier s c g v _
  | divideByZero => exact raise_withEarlier s c g v .cntDivideByZero
  | noFormula => rfl

theorem reportSample_withEarlier (q : Quantity) :
    reportSample q (s.withEarlier c g v) = (reportSample q s).withEarlier c g v := by
  by_cases run : 0 < s.vam.count
  · simp only [reportSample, withEarlier_vam, run, if_true]
    split
    · exact emitVam_withEarlier s c g v _
    · exact raise_withEarlier s c g v _
  · simp only [reportSample, withEarlier_vam, run, if_false]

theorem finalise_withEarlier : finalise (s.withEarlier c g v) = (finalise s).withEarlier c g v := by
  simp only [finalise, finaliseSample, withEarlier_vam, reportSample_withEarlier]
  split <;> rfl

theorem selectCommand_withEarlier (b : Byte) :
    selectCommand b (s.withEarlier c g v) = (selectCommand b s).withEarlier c g v := by
  by_cases unknown : vamCmdOf b = .none <;> simp [selectCommand, unknown]

/-! ### The operations -/

theorem execCntRange_withEarlier (b : Byte) :
    execCntRange b (s.withEarlier c g v) = mapNext (·.withEarlier c g v) (execCntRange b s) := by
  by_cases changed : cntRangeChanged s.cnt b <;> simp [execCntRange, changed]

theorem execCntNib5_withEarlier (b : Byte) :
    execCntNib5 b (s.withEarlier c g v) = mapNext (·.withEarlier c g v) (execCntNib5 b s) := by
  simp [execCntNib5, reportCounterValue_withEarlier]

theorem execCntSetMode_withEarlier (m : Byte) :
    execCntSetMode m (s.withEarlier c g v) = mapNext (·.withEarlier c g v) (execCntSetMode m s) := by
  by_cases known : m.toNat ≤ 2 <;> simp [execCntSetMode, known]

theorem execGenData_withEarlier (b : Byte) :
    execGenData b (s.withEarlier c g v) = mapNext (·.withEarlier c g v) (execGenData b s) := by
  by_cases room : s.gen.rxlen.toNat < 10
  · rw [execGenData_of_lt s b room, execGenData_of_lt (s.withEarlier c g v) b room]
    rfl
  · rw [execGenData_of_not_lt s b room, execGenData_of_not_lt (s.withEarlier c g v) b room]
    rfl

theorem execGenSetWave_withEarlier (wave : Byte) :
    execGenSetWave wave (s.withEarlier c g v) = mapNext (·.withEarlier c g v) (execGenSetWave wave s) := by
  by_cases silent : wave = 0#8 <;> simp [execGenSetWave, silent]

theorem execGenSetFreqHz_withEarlier (hz : ℚ) (wave : Wave) :
    execGenSetFreqHz hz wave (s.withEarlier c g v) = mapNext (·.withEarlier c g v) (execGenSetFreqHz hz wave s) := by
  unfold execGenSetFreqHz
  split <;> simp

theorem execVamCtrl_withEarlier (b : Byte) :
    execVamCtrl b (s.withEarlier c g v) = mapNext (·.withEarlier c g v) (execVamCtrl b s) := by
  have hclear : clearRun ((finalise s).withEarlier c g v) = (clearRun (finalise s)).withEarlier c g v := rfl
  rw [execVamCtrl, execVamCtrl, mapNext_next, finalise_withEarlier, hclear, selectCommand_withEarlier]

theorem execVamVrange_withEarlier (b : Byte) :
    execVamVrange b (s.withEarlier c g v) = mapNext (·.withEarlier c g v) (execVamVrange b s) := by
  unfold execVamVrange
  split
  next idx _ => by_cases changed : vRangeChanged s.vam idx <;> simp [changed]
  next => simp

theorem execVamIrange_withEarlier (hw : Bool) (b : Byte) :
    execVamIrange hw b (s.withEarlier c g v) = mapNext (·.withEarlier c g v) (execVamIrange hw b s) := by
  unfold execVamIrange
  split
  next idx _ => by_cases changed : iRangeChanged s.vam hw idx <;> simp [changed]
  next => simp

theorem execVamCalLoad_withEarlier (src : CalSource) :
    execVamCalLoad src (s.withEarlier c g v) = mapNext (·.withEarlier c g v) (execVamCalLoad src s) := by
  cases src with
  | unavailable => simp [execVamCalLoad]
  | numbers factors => by_cases enough : 12 ≤ factors.length <;> simp [execVamCalLoad, enough]

/-- Executing an operation commutes with putting earlier outputs in front of the recorded ones. -/
theorem exec_withEarlier (i : Instr) :
    exec i (s.withEarlier c g v) = mapNext (·.withEarlier c g v) (exec i s) := by
  cases i with
  | cntRange b => exact execCntRange_withEarlier s c g v b
  | cntNib5 b => exact execCntNib5_withEarlier s c g v b
  | cntSetMode m => exact execCntSetMode_withEarlier s c g v m
  | genData b => exact execGenData_withEarlier s c g v b
  | genSetWave wave => exact execGenSetWave_withEarlier s c g v wave
  | genSetFreqHz hz wave => exact execGenSetFreqHz_withEarlier s c g v hz wave
  | vamCtrl b => exact execVamCtrl_withEarlier s c g v b
  | vamVrange b => exact execVamVrange_withEarlier s c g v b
  | vamIrange hw b => exact execVamIrange_withEarlier s c g v hw b
  | vamCalLoad src => exact execVamCalLoad_withEarlier s c g v src
  | reset u => exact congrArg Host.Outcome.next (resetUnit_withEarlier s c g v u)
  | cntSent | cntNib | genPkt | vamReflo | vamRefhi | vamSmplo | vamSmphi => rfl
  | cntLost | cntSetTrigger | genMemld | genAck | genLost | genLast | genSave | genLoad | genSetFilter
  | genSetAmplitude | genSetOffset | genSetFrequency | genRequestState | vamStray | vamCalUnload =>
    exact congrArg Host.Outcome.next (by simp)

/-- What a strobe does commutes with putting earlier outputs in front of the recorded ones. -/
theorem inputStep_withEarlier (x : Input) :
    inputStep x (s.withEarlier c g v) = mapNext (·.withEarlier c g v) (inputStep x s) :=
  exec_withEarlier s c g v (decode s.seq x)

end Sys2Proof.Machine
end

section
/-! What the operations of one unit can write: that unit's registers and outputs and its count of resets, and of the
generator's configuration (42 R184 (d)) and the VAmeter's calibration (10_state R42) only what their own writers write. -/

namespace Sys2Proof.Machine

/-- `t` differs from `s` at most in what belongs to the counter unit. -/
def OnlyCntChanged (s t : State) : Prop :=
  ∃ r out k, t = { s with cnt := r, cntOut := out, resets := { s.resets with cnt := k } }

/-- `t` differs from `s` at most in what belongs to the generator unit. -/
def OnlyGenChanged (s t : State) : Prop :=
  ∃ r out k, t = { s with gen := r, genOut := out, resets := { s.resets with gen := k } }

/-- `t` differs from `s` at most in what belongs to the VAmeter unit. -/
def OnlyVamChanged (s t : State) : Prop :=
  ∃ r out k, t = { s with vam := r, vamOut := out, resets := { s.resets with vam := k } }

variable {i : Instr} {s t : State}

/-- An operation of the counter leaves the other units alone. -/
theorem exec_cnt_frame (hu : i.unit = .cnt) (h : exec i s = .next t) : OnlyCntChanged s t := by
  cases i with
  | cntSent | cntLost | cntNib | cntSetTrigger => cases h; exact ⟨_, _, _, rfl⟩
  | cntRange b =>
    by_cases changed : cntRangeChanged s.cnt b
    all_goals
      simp only [exec, execCntRange, changed] at h
      cases h
      exact ⟨_, _, _, rfl⟩
  | cntNib5 b =>
    obtain ⟨evs, hreport, -⟩ := reportCounterValue_frame (counterHertz s.cnt.range (s.cnt.acc ||| nibbleAt 5 b)) s
    simp only [exec, execCntNib5, hreport] at h
    cases h
    exact ⟨_, _, _, rfl⟩
  | cntSetMode m =>
    simp only [exec, execCntSetMode] at h
    split at h <;> cases h <;> exact ⟨_, _, _, rfl⟩
  | reset u =>
    obtain rfl : u = .cnt := hu
    cases h
    exact ⟨_, _, _, rfl⟩
  | _ => cases hu

/-- An operation of the generator leaves the other units alone, and all but `GEN.LAST` and the reset leave the
configuration registers alone. -/
theorem exec_gen_frame (hu : i.unit = .gen) (h : exec i s = .next t) :
    OnlyGenChanged s t ∧ (configOf t.gen = configOf s.gen ∨ (∃ b, i = .genLast b) ∨ i = .reset .gen) := by
  cases i with
  | genMemld | genAck | genPkt | genLost | genSave | genLoad | genSetFilter | genSetAmplitude | genSetOffset
  | genSetFrequency | genRequestState => cases h; exact ⟨⟨_, _, _, rfl⟩, .inl rfl⟩
  | genData b =>
    simp only [exec, execGenData] at h
    split at h <;> cases h
    exact ⟨⟨_, _, _, rfl⟩, .inl rfl⟩
  | genSetWave wave =>
    simp only [exec, execGenSetWave] at h
    split at h <;> cases h <;> exact ⟨⟨_, _, _, rfl⟩, .inl rfl⟩
  | genSetFreqHz hz wave =>
    simp only [exec, execGenSetFreqHz] at h
    split at h <;> cases h <;> exact ⟨⟨_, _, _, rfl⟩, .inl rfl⟩
  | genLast b =>
    cases h
    exact ⟨⟨_, _, _, rfl⟩, .inr (.inl ⟨b, rfl⟩)⟩
  | reset u =>
    obtain rfl : u = .gen := hu
    cases h
    exact ⟨⟨_, _, _, rfl⟩, .inr (.inr rfl)⟩
  | _ => cases hu

theorem calibrationOf_setNeg (r : VamRegs) (q : Quantity) (n : Nat) :
    calibrationOf (r.setNeg q n) = calibrationOf r := by
  cases q <;> rfl

/-- `VAM.CTRL` leaves the other units and the calibration alone, whatever run it closes. -/
theorem execVamCtrl_frame {b : Byte} (h : execVamCtrl b s = .next t) :
    OnlyVamChanged s t ∧ calibrationOf t.vam = calibrationOf s.vam := by
  obtain ⟨evs, r, hfinal, hr⟩ := finalise_cases s
  have hcal : calibrationOf r = calibrationOf s.vam := by
    obtain ⟨-, -, rfl⟩ | ⟨-, -, rfl⟩ | ⟨-, -, rfl⟩ | ⟨-, -, rfl⟩ | ⟨-, -, rfl⟩ | ⟨-, -, rfl⟩ | ⟨-, -, rfl⟩ := hr
    all_goals rfl
  rw [execVamCtrl, selectCommand_clearRun, hfinal] at h
  cases h
  exact ⟨⟨_, _, _, rfl⟩, hcal⟩

/-- An operation of the VAmeter leaves the other units alone, and all but the two calibration operations and the reset
leave the calibration registers alone. -/
theorem exec_vam_frame (hu : i.unit = .vam) (h : exec i s = .next t) :
    OnlyVamChanged s t ∧
      (calibrationOf t.vam = calibrationOf s.vam ∨
        (∃ src, i = .vamCalLoad src) ∨ i = .vamCalUnload ∨ i = .reset .vam) := by
  cases i with
  | vamReflo | vamRefhi | vamSmplo | vamStray => cases h; exact ⟨⟨_, _, _, rfl⟩, .inl rfl⟩
  | vamSmphi q b =>
    cases h
    exact ⟨⟨_, _, _, rfl⟩, .inl (calibrationOf_setNeg s.vam q _)⟩
  | vamCtrl b =>
    obtain ⟨only, hcal⟩ := execVamCtrl_frame h
    exact ⟨only, .inl hcal⟩
  | vamVrange b =>
    simp only [exec, execVamVrange] at h
    split at h
    next idx _ =>
      split at h <;> cases h <;> exact ⟨⟨_, _, _, rfl⟩, .inl rfl⟩
    next => cases h; exact ⟨⟨_, _, _, rfl⟩, .inl rfl⟩
  | vamIrange hw b =>
    simp only [exec, execVamIrange] at h
    split at h
    next idx _ =>
      split at h <;> cases h <;> exact ⟨⟨_, _, _, rfl⟩, .inl rfl⟩
    next => cases h; exact ⟨⟨_, _, _, rfl⟩, .inl rfl⟩
  | vamCalLoad src =>
    refine ⟨?_, .inr (.inl ⟨src, rfl⟩)⟩
    simp only [exec, execVamCalLoad] at h
    split at h
    · cases h; exact ⟨_, _, _, rfl⟩
    · split at h <;> cases h <;> exact ⟨_, _, _, rfl⟩
  | vamCalUnload =>
    cases h
    exact ⟨⟨_, _, _, rfl⟩, .inr (.inr (.inl rfl))⟩
  | reset u =>
    obtain rfl : u = .vam := hu
    cases h
    exact ⟨⟨_, _, _, rfl⟩, .inr (.inr (.inr rfl))⟩
  | _ => cases hu

end Sys2Proof.Machine
end

section
/-! The invariants right after a reset, whatever the registers that 10_state R47 marks unspecified hold (log 5 to 8). -/

namespace Sys2Proof.Machine

theorem cntInv_reset (range : Byte) : CntInv { CntRegs.reset with range := range } :=
  rfl

theorem genInv_reset (rxbuf : Vector Byte 10) : GenInv { GenRegs.reset with rxbuf := rxbuf } := by
  simp [GenInv, GenRegs.reset]

theorem vamInv_reset (sampleLow : Byte) : VamInv { VamRegs.reset with sampleLow := sampleLow } := by
  have zeroInRange : inRawRange 0 := by norm_num [inRawRange]
  exact
    { latch := nofun
      idle := fun _ _ => ⟨rfl, rfl⟩
      vNegBound := nofun
      iNegBound := nofun
      vNegZero := fun _ => rfl
      iNegZero := fun _ => rfl
      vZero := zeroInRange
      vGain := zeroInRange
      iZero := zeroInRange
      iGain := zeroInRange
      sum := le_rfl
      refSum := nofun }

end Sys2Proof.Machine
end

section
/-! The obligations about the state: its values at reset, who writes its registers, and its streams (10_state). -/

namespace Sys2Proof.Machine

/-- Settles O41: an operation writes its own unit only, and there by `exec_vam_frame` and `exec_gen_frame` the calibration
and the configuration change in their writers alone. -/
theorem calibrationAndConfigurationWriters : Obligations.CalibrationAndConfigurationWriters := by
  unfold Obligations.CalibrationAndConfigurationWriters
  intro i s t h
  cases hu : i.unit with
  | cnt =>
    obtain ⟨r, out, k, rfl⟩ := exec_cnt_frame hu h
    exact ⟨fun changed => absurd rfl changed, fun changed => absurd rfl changed⟩
  | gen =>
    obtain ⟨⟨r, out, k, rfl⟩, writers⟩ := exec_gen_frame hu h
    exact ⟨fun changed => absurd rfl changed, writers.resolve_left⟩
  | vam =>
    obtain ⟨⟨r, out, k, rfl⟩, writers⟩ := exec_vam_frame hu h
    exact ⟨writers.resolve_left, fun changed => absurd rfl changed⟩

/-- Settles O49: the lists are what the strobe puts out in the state without earlier outputs and waiting strobes; that
state differs from any other with the same registers by `withEarlier` and `setInputs`, and the step commutes with both. -/
theorem streamsAreOnlyAppendedTo : Obligations.StreamsAreOnlyAppendedTo := by
  unfold Obligations.StreamsAreOnlyAppendedTo
  intro x s
  obtain ⟨t, ht, -⟩ := inputStep_completes x { s with cntOut := [], genOut := [], vamOut := [], inputs := [] }
  refine ⟨t, t.cntOut, t.genOut, t.vamOut, fun c g v l => ?_⟩
  have hstate : { s with cntOut := c, genOut := g, vamOut := v, inputs := l } =
      (State.withEarlier { s with cntOut := [], genOut := [], vamOut := [], inputs := [] } c g v).setInputs l := by
    simp [State.withEarlier, State.setInputs]
  rw [hstate, inputStep_setInputs, inputStep_withEarlier, ht]
  rfl

/-- Settles O1: the registers by evaluation, the calibration factors by the law of a constant vector. -/
theorem resetHoldsSpecifiedValues : Obligations.ResetHoldsSpecifiedValues := by
  unfold Obligations.ResetHoldsSpecifiedValues
  have hcalV (k : Fin 8) : State.reset.vam.calV[k] = 1000 := Vector.getElem_replicate _
  have hcalI (k : Fin 4) : State.reset.vam.calI[k] = 1000 := Vector.getElem_replicate _
  exact ⟨⟨rfl, rfl, rfl⟩, ⟨rfl, rfl, rfl, rfl, rfl, rfl, rfl, rfl⟩,
    ⟨rfl, rfl, rfl, rfl, rfl, rfl, rfl, rfl, rfl, rfl, rfl, rfl, rfl, rfl, rfl, hcalV, hcalI⟩⟩

/-- Settles O17: the two branches of `GEN.DATA`, by whether the buffer has an element for the byte. -/
theorem genDataOutsidePacket : Obligations.GenDataOutsidePacket := by
  unfold Obligations.GenDataOutsidePacket
  exact fun s b => ⟨fun room => ⟨_, execGenData_of_lt s b room⟩, fun full => execGenData_of_not_lt s b (not_lt.2 full)⟩

/-- Settles O55: unit by unit, whatever the unspecified registers hold. -/
theorem resetMeetsInvariants : Obligations.ResetMeetsInvariants :=
  { cnt := cntInv_reset _, gen := genInv_reset _, vam := vamInv_reset _ }

end Sys2Proof.Machine
end

section
/-! A whole run of received bytes: it completes, and where it is cut has no effect (20_memory R78). -/

namespace Sys2Proof.Machine

/-- Any bytes can be fed to a unit in any state. -/
theorem feed_completes (u : UnitId) (bs : List Byte) (s : State) : ∃ t, feed u bs s = .next t := by
  induction bs generalizing s with
  | nil => exact ⟨s, rfl⟩
  | cons b bs ih =>
    obtain ⟨m, hm, -⟩ := inputStep_completes (.rx u b) s
    rw [feed_cons_of_inputStep u b bs s m hm]
    exact ih m

/-- Feeding joined bytes is feeding the second part in the state that the first part leads to. -/
theorem feed_append {u : UnitId} {as : List Byte} {s m : State} (h : feed u as s = .next m) (bs : List Byte) :
    feed u (as ++ bs) s = feed u bs m := by
  induction as generalizing s with
  | nil =>
    cases h
    rfl
  | cons a as ih =>
    obtain ⟨k, hk, -⟩ := inputStep_completes (.rx u a) s
    rw [feed_cons_of_inputStep u a as s k hk] at h
    rw [List.cons_append, feed_cons_of_inputStep u a (as ++ bs) s k hk]
    exact ih h

end Sys2Proof.Machine
end

section
/-! The bytes a command sends are its encoding: the masks and shifts of the pseudocode (41_counter_encoder,
43_generator_encoder) against the fields of 30_encoding R106, R107. -/

namespace Sys2Proof.Machine

/-- A slot or wave number is masked to its low three bits (30_encoding R107). -/
theorem and_mask3_eq : ∀ b : Byte, b &&& 0x07#8 = 0#5 ++ b.extractLsb' 0 3 := by decide
/-- A filter number is masked to its low two bits (30_encoding R107). -/
theorem and_mask2_eq : ∀ b : Byte, b &&& 0x03#8 = 0#6 ++ b.extractLsb' 0 2 := by decide

/-- Or-ing a masked slot or wave number under a five-bit opcode puts its low three bits behind the opcode. -/
theorem opcode_or_low3 (op : BitVec 5) (b : Byte) : (op ++ 0#3) ||| (b &&& 0x07#8) = op ++ b.extractLsb' 0 3 := by
  rw [and_mask3_eq, BitVec.or_append, BitVec.or_zero, BitVec.zero_or]

/-- A byte of a word, shifted down and masked, is the field of the word at that place. -/
theorem shiftedByte_eq_extractLsb' (f : BitVec 32) (k : Nat) :
    (f >>> k &&& 0xFF#32).setWidth 8 = f.extractLsb' k 8 := by
  rw [BitVec.setWidth_and, BitVec.setWidth_ushiftRight_eq_extractLsb]
  exact BitVec.and_allOnes

theorem frequencyBytes_eq_encodeFrequency (f : BitVec 32) : frequencyBytes f = encodeFrequency f := by
  have low : (f &&& 0xFF#32).setWidth 8 = f.extractLsb' 0 8 := by
    simpa using shiftedByte_eq_extractLsb' f 0
  rw [frequencyBytes, encodeFrequency, shiftedByte_eq_extractLsb', shiftedByte_eq_extractLsb', low]

/-- `0x80` plus the six-bit trigger field is below 256, so writing it in eight bits loses nothing. -/
theorem triggerByte_eq_encodeTrigger (level : BitVec 32) : triggerByte level = encodeTrigger level := by
  have field := triggerByte_toNat level
  rw [clamp_eq] at field
  apply BitVec.eq_of_toNat_eq
  rw [encodeTrigger, BitVec.toNat_ofInt]
  omega

/-! ### The commands -/

@[simp] theorem sendCnt_nil (s : State) : s.sendCnt [] = s := by
  simp [State.sendCnt]

@[simp] theorem sendGen_nil (s : State) : s.sendGen [] = s := by
  simp [State.sendGen]

/-- A mode above 2 sends nothing (41_counter_encoder R160). -/
theorem execCntSetMode_sends (m : Byte) (s : State) :
    ∃ st, execCntSetMode m s = .next ((s.sendCnt (encode (.cntSetMode m))).retCnt st) := by
  by_cases known : m.toNat ≤ 2
  · exact ⟨.ok, by simp [execCntSetMode, encode, known, Nat.lt_succ_of_le known]⟩
  · exact ⟨.invalidArgument, by simp [execCntSetMode, encode, known, Nat.lt_succ_iff]⟩

/-- Wave 0 sends nothing, but returns its status (43_generator_encoder R203). -/
theorem execGenSetWave_sends (wave : Byte) (s : State) :
    execGenSetWave wave s = .next ((s.sendGen (encode (.genSetWave wave))).retGen .ok) := by
  by_cases silent : wave = 0#8
  · simp [execGenSetWave, encode, silent]
  · simp only [execGenSetWave, encode, silent, if_false, ← opcode_or_low3]
    rfl

/-- A wave without a frequency formula sends nothing (43_generator_encoder R209, R210). -/
theorem execGenSetFreqHz_sends (hz : ℚ) (wave : Wave) (s : State) :
    ∃ st, execGenSetFreqHz hz wave s = .next ((s.sendGen (encode (.genSetFreqHz hz wave))).retGen st) := by
  cases hraw : hertzToRaw hz wave with
  | some r => exact ⟨.ok, by simp [execGenSetFreqHz, encode, hraw, frequencyBytes_eq_encodeFrequency, trunc32]⟩
  | none => exact ⟨.unsupported, by simp [execGenSetFreqHz, encode, hraw]⟩

variable {i : Instr} (s : State)

/-- A transmit operation of the counter sends its encoding and returns a status. -/
theorem exec_cntCommand (hkind : i.kind = .tx) (hunit : i.unit = .cnt) :
    ∃ st, exec i s = .next ((s.sendCnt (encode i)).retCnt st) := by
  cases i with
  | cntSetMode m => exact execCntSetMode_sends m s
  | cntSetTrigger level =>
    refine ⟨.ok, ?_⟩
    rw [encode, ← triggerByte_eq_encodeTrigger]
    rfl
  | cntSent | cntLost | cntRange | cntNib | cntNib5 | reset => cases hkind
  | _ => cases hunit

/-- A transmit operation of the generator sends its encoding and returns a status. -/
theorem exec_genCommand (hkind : i.kind = .tx) (hunit : i.unit = .gen) :
    ∃ st, exec i s = .next ((s.sendGen (encode i)).retGen st) := by
  cases i with
  | genSave slot | genLoad slot =>
    refine ⟨.ok, ?_⟩
    rw [encode, ← opcode_or_low3]
    rfl
  | genSetWave wave => exact ⟨.ok, execGenSetWave_sends wave s⟩
  | genSetFilter f =>
    refine ⟨.ok, ?_⟩
    rw [encode, ← and_mask2_eq]
    rfl
  | genSetFrequency f =>
    refine ⟨.ok, ?_⟩
    rw [encode, ← frequencyBytes_eq_encodeFrequency]
    rfl
  | genSetAmplitude | genSetOffset | genRequestState => exact ⟨.ok, rfl⟩
  | genSetFreqHz hz wave => exact execGenSetFreqHz_sends hz wave s
  | genMemld | genAck | genPkt | genLost | genData | genLast | reset => cases hkind
  | _ => cases hunit

/-- The VAmeter has no transmit operation (20_memory R70). -/
theorem unit_ne_vam_of_tx (hkind : i.kind = .tx) : i.unit ≠ .vam := by
  cases i with
  | cntSetMode | cntSetTrigger | genSave | genLoad | genSetWave | genSetFilter | genSetAmplitude | genSetOffset
  | genSetFrequency | genRequestState | genSetFreqHz => nofun
  | _ => cases hkind

end Sys2Proof.Machine
end

section
/-! An operation is confined to its unit (20_memory R89): it reads and writes that unit's part of the state and nothing
else, so what it does is the same whatever the other units hold. -/

namespace Sys2Proof.Machine

/-- The state `r` with unit `u`'s part, its registers, outputs and count of resets, taken from `s`. -/
def State.withUnit (r : State) (u : UnitId) (s : State) : State :=
  match u with
  | .cnt => { r with cnt := s.cnt, cntOut := s.cntOut, resets := { r.resets with cnt := s.resets.cnt } }
  | .gen => { r with gen := s.gen, genOut := s.genOut, resets := { r.resets with gen := s.resets.gen } }
  | .vam => { r with vam := s.vam, vamOut := s.vamOut, resets := { r.resets with vam := s.resets.vam } }

@[simp] theorem withUnit_self (s : State) (u : UnitId) : s.withUnit u s = s := by
  cases u <;> rfl

/-- The parts of different units do not overlap. -/
theorem withUnit_comm {u v : UnitId} (h : u ≠ v) (r s t : State) :
    (r.withUnit u s).withUnit v t = (r.withUnit v t).withUnit u s := by
  cases u <;> cases v
  case cnt.cnt | gen.gen | vam.vam => exact absurd rfl h
  all_goals rfl

/-- The decoder reads the sequencing registers of the strobed unit alone (10_state R22). -/
theorem decode_withUnit (x : Input) (r s : State) :
    decode (r.withUnit (inputUnit x) s).seq x = decode s.seq x := by
  cases x with
  | cmd c => rfl
  | rx u b => cases u <;> rfl

variable (r s : State)

@[simp] theorem withUnit_cnt : (r.withUnit .cnt s).cnt = s.cnt := rfl
@[simp] theorem withUnit_vam : (r.withUnit .vam s).vam = s.vam := rfl

/-! ### The shared operations -/

theorem resetUnit_withUnit (u : UnitId) : (r.withUnit u s).resetUnit u = r.withUnit u (s.resetUnit u) := by
  cases u <;> rfl

theorem reportCounterValue_withUnit (value : CounterValue) :
    reportCounterValue value (r.withUnit .cnt s) = r.withUnit .cnt (reportCounterValue value s) := by
  cases value <;> rfl

theorem reportSample_withUnit (q : Quantity) :
    reportSample q (r.withUnit .vam s) = r.withUnit .vam (reportSample q s) := by
  by_cases run : 0 < s.vam.count
  · simp only [reportSample, withUnit_vam, run, if_true]
    split <;> rfl
  · simp only [reportSample, withUnit_vam, run, if_false]

theorem finalise_withUnit : finalise (r.withUnit .vam s) = r.withUnit .vam (finalise s) := by
  simp only [finalise, finaliseSample, withUnit_vam, reportSample_withUnit]
  split <;> rfl

theorem selectCommand_withUnit (b : Byte) :
    selectCommand b (r.withUnit .vam s) = r.withUnit .vam (selectCommand b s) := by
  simp only [selectCommand]
  split <;> rfl

/-! ### The operations -/

theorem execCntRange_withUnit (b : Byte) :
    execCntRange b (r.withUnit .cnt s) = mapNext (r.withUnit .cnt) (execCntRange b s) := by
  simp only [execCntRange, withUnit_cnt]
  by_cases changed : cntRangeChanged s.cnt b <;> simp only [changed] <;> rfl

theorem execCntNib5_withUnit (b : Byte) :
    execCntNib5 b (r.withUnit .cnt s) = mapNext (r.withUnit .cnt) (execCntNib5 b s) := by
  simp only [execCntNib5, withUnit_cnt, reportCounterValue_withUnit]
  rfl

theorem execCntSetMode_withUnit (m : Byte) :
    execCntSetMode m (r.withUnit .cnt s) = mapNext (r.withUnit .cnt) (execCntSetMode m s) := by
  unfold execCntSetMode
  split <;> rfl

theorem execGenData_withUnit (b : Byte) :
    execGenData b (r.withUnit .gen s) = mapNext (r.withUnit .gen) (execGenData b s) := by
  by_cases room : s.gen.rxlen.toNat < 10
  · rw [execGenData_of_lt s b room, execGenData_of_lt (r.withUnit .gen s) b room]
    rfl
  · rw [execGenData_of_not_lt s b room, execGenData_of_not_lt (r.withUnit .gen s) b room]
    rfl

theorem execGenSetWave_withUnit (wave : Byte) :
    execGenSetWave wave (r.withUnit .gen s) = mapNext (r.withUnit .gen) (execGenSetWave wave s) := by
  rw [execGenSetWave_sends, execGenSetWave_sends]
  rfl

theorem execGenSetFreqHz_withUnit (hz : ℚ) (wave : Wave) :
    execGenSetFreqHz hz wave (r.withUnit .gen s) = mapNext (r.withUnit .gen) (execGenSetFreqHz hz wave s) := by
  unfold execGenSetFreqHz
  split <;> rfl

theorem execVamCtrl_withUnit (b : Byte) :
    execVamCtrl b (r.withUnit .vam s) = mapNext (r.withUnit .vam) (execVamCtrl b s) := by
  have hclear : clearRun (r.withUnit .vam (finalise s)) = r.withUnit .vam (clearRun (finalise s)) := rfl
  rw [execVamCtrl, execVamCtrl, mapNext_next, finalise_withUnit, hclear, selectCommand_withUnit]

theorem execVamVrange_withUnit (b : Byte) :
    execVamVrange b (r.withUnit .vam s) = mapNext (r.withUnit .vam) (execVamVrange b s) := by
  simp only [execVamVrange, withUnit_vam]
  split
  next idx _ => by_cases changed : vRangeChanged s.vam idx <;> simp only [changed] <;> rfl
  next => rfl

theorem execVamIrange_withUnit (hw : Bool) (b : Byte) :
    execVamIrange hw b (r.withUnit .vam s) = mapNext (r.withUnit .vam) (execVamIrange hw b s) := by
  simp only [execVamIrange, withUnit_vam]
  split
  next idx _ => by_cases changed : iRangeChanged s.vam hw idx <;> simp only [changed] <;> rfl
  next => rfl

theorem execVamCalLoad_withUnit (src : CalSource) :
    execVamCalLoad src (r.withUnit .vam s) = mapNext (r.withUnit .vam) (execVamCalLoad src s) := by
  cases src with
  | unavailable => rfl
  | numbers factors =>
    simp only [execVamCalLoad]
    split <;> rfl

/-- Executing an operation on its own unit's part of `s`, whatever the rest is, changes that part as it does in `s` and
nothing else. -/
theorem exec_withUnit (i : Instr) : exec i (r.withUnit i.unit s) = mapNext (r.withUnit i.unit) (exec i s) := by
  cases i with
  | cntRange b => exact execCntRange_withUnit r s b
  | cntNib5 b => exact execCntNib5_withUnit r s b
  | cntSetMode m => exact execCntSetMode_withUnit r s m
  | genData b => exact execGenData_withUnit r s b
  | genSetWave wave => exact execGenSetWave_withUnit r s wave
  | genSetFreqHz hz wave => exact execGenSetFreqHz_withUnit r s hz wave
  | vamCtrl b => exact execVamCtrl_withUnit r s b
  | vamVrange b => exact execVamVrange_withUnit r s b
  | vamIrange hw b => exact execVamIrange_withUnit r s hw b
  | vamCalLoad src => exact execVamCalLoad_withUnit r s src
  | reset u => exact congrArg Host.Outcome.next (resetUnit_withUnit r s u)
  | cntSent | cntLost | cntNib | cntSetTrigger | genMemld | genAck | genPkt | genLost | genLast | genSave | genLoad
  | genSetFilter | genSetAmplitude | genSetOffset | genSetFrequency | genRequestState | vamReflo | vamRefhi | vamSmplo
  | vamSmphi | vamStray | vamCalUnload => rfl

/-! ### One strobe -/

variable {s} {t : State} {x : Input}

/-- What a strobe does to its unit's part does not depend on the rest of the state, which it leaves alone. -/
theorem inputStep_withUnit (h : inputStep x s = .next t) :
    inputStep x (r.withUnit (inputUnit x) s) = .next (r.withUnit (inputUnit x) t) := by
  have hexec := exec_withUnit r s (decode s.seq x)
  rw [decode_unit] at hexec
  rw [inputStep, decode_withUnit, hexec]
  exact congrArg (mapNext _) h

/-- A strobe changes its own unit's part only. -/
theorem inputStep_eq_withUnit (h : inputStep x s = .next t) : t = s.withUnit (inputUnit x) t := by
  have same := inputStep_withUnit s h
  rw [withUnit_self, h] at same
  exact Host.Outcome.next.inj same

/-- After a strobe of another unit, a strobe changes its own unit's part as it would have before. -/
theorem inputStep_after {y : Input} {m m' : State} (hne : inputUnit x ≠ inputUnit y) (hx : inputStep x s = .next m)
    (hy : inputStep y s = .next m') : inputStep y m = .next (m.withUnit (inputUnit y) m') := by
  have own : m.withUnit (inputUnit y) s = m :=
    calc m.withUnit (inputUnit y) s
        = (s.withUnit (inputUnit x) m).withUnit (inputUnit y) s := by rw [← inputStep_eq_withUnit hx]
      _ = (s.withUnit (inputUnit y) s).withUnit (inputUnit x) m := withUnit_comm hne s m s
      _ = m := by rw [withUnit_self, ← inputStep_eq_withUnit hx]
  have hstep := inputStep_withUnit m hy
  rwa [own] at hstep

end Sys2Proof.Machine
end

section
/-! The obligations about the streams and their order (20_memory). -/

namespace Sys2Proof.Machine

/-- Settles O47: every run of bytes completes, and a run of joined bytes is the run of the second after the first. -/
theorem feedIsChunkIndependent : Obligations.FeedIsChunkIndependent := by
  unfold Obligations.FeedIsChunkIndependent
  intro u as bs s
  obtain ⟨m, hm⟩ := feed_completes u as s
  obtain ⟨t, ht⟩ := feed_completes u bs m
  exact ⟨m, t, hm, ht, (feed_append hm bs).trans ht, rfl⟩

/-- Settles O50: the unit's own command lemma gives the state, `sendCnt` or `sendGen` and then a status. -/
theorem commandsSendTheirEncoding : Obligations.CommandsSendTheirEncoding := by
  unfold Obligations.CommandsSendTheirEncoding
  intro i s hkind
  cases hunit : i.unit with
  | cnt =>
    obtain ⟨st, hexec⟩ := exec_cntCommand s hkind hunit
    exact ⟨_, st, hexec, fun _ => rfl, nofun, nofun⟩
  | gen =>
    obtain ⟨st, hexec⟩ := exec_genCommand s hkind hunit
    exact ⟨_, st, hexec, nofun, fun _ => rfl, nofun⟩
  | vam => exact absurd hunit (unit_ne_vam_of_tx hkind)

/-- Settles O56: each strobe does the same to its own unit's part in either order, and the two parts do not overlap. -/
theorem unitsCommute : Obligations.UnitsCommute := by
  unfold Obligations.UnitsCommute
  intro x y s m t hne hx hy
  obtain ⟨m', hy', -⟩ := inputStep_completes y s
  have ht : t = m.withUnit (inputUnit y) m' :=
    Host.Outcome.next.inj (hy.symm.trans (inputStep_after hne hx hy'))
  have swap : m'.withUnit (inputUnit x) m = m.withUnit (inputUnit y) m' :=
    calc m'.withUnit (inputUnit x) m
        = (s.withUnit (inputUnit y) m').withUnit (inputUnit x) m := by rw [← inputStep_eq_withUnit hy']
      _ = (s.withUnit (inputUnit x) m).withUnit (inputUnit y) m' := withUnit_comm hne.symm s m' m
      _ = m.withUnit (inputUnit y) m' := by rw [← inputStep_eq_withUnit hx]
  exact ⟨m', hy', by rw [inputStep_after hne.symm hy' hx, swap, ht]⟩

end Sys2Proof.Machine
end

section
/-! Reading back what a command sends (30_encoding R106, R107, R121): the fields of each encoding and the transmit
decoder on them. -/

namespace Sys2Proof

/-! ### A five-bit opcode with a three-bit operand (30_encoding R107) -/

theorem opcode_and_mask (op : BitVec 5) (x : BitVec 3) : (op ++ x) &&& 0xF8#8 = op ++ 0#3 := by
  rw [show (0xF8#8 : Byte) = BitVec.allOnes 5 ++ 0#3 from rfl, BitVec.and_append, BitVec.and_allOnes, BitVec.and_zero]

theorem operand_and_mask (op : BitVec 5) (x : BitVec 3) : (op ++ x) &&& 0x07#8 = 0#5 ++ x := by
  rw [show (0x07#8 : Byte) = 0#5 ++ BitVec.allOnes 3 from rfl, BitVec.and_append, BitVec.and_zero, BitVec.and_allOnes]

/-- The masked operand of an opcode byte is the byte operand it was cut from, when that has no higher bits. -/
theorem operand_of_lt (op : BitVec 5) {b : Byte} (h : b < 8#8) : (op ++ b.extractLsb' 0 3) &&& 0x07#8 = b := by
  have low : ∀ b : Byte, b < 8#8 → 0#5 ++ b.extractLsb' 0 3 = b := by decide
  rw [operand_and_mask, low b h]

/-- The one-byte commands of the generator: their first byte announces no operand byte (30_encoding R121). -/
theorem decodeTxGen_singleton {b : Byte} (h : genTxLength b = 1) :
    decodeTxGen [b] =
      if b &&& 0xF8#8 = 0x60#8 then .ok (.genSave (b &&& 0x07#8))
      else if b &&& 0xF8#8 = 0x70#8 then .ok (.genLoad (b &&& 0x07#8))
      else if b = 0x30#8 then .ok (.genSetWave 8#8)
      else if b &&& 0xF8#8 = 0x30#8 then .ok (.genSetWave (b &&& 0x07#8))
      else if b = Config.chQuestion then .ok .genRequestState
      else .error (.unknownFirstByte b) := by
  simp [decodeTxGen, h]

theorem decodeTxGen_save {slot : Byte} (h : slot < 8#8) :
    decodeTxGen [0b01100#5 ++ slot.extractLsb' 0 3] = .ok (.genSave slot) := by
  have length : ∀ x : BitVec 3, genTxLength (0b01100#5 ++ x) = 1 := by decide
  rw [decodeTxGen_singleton (length _), opcode_and_mask, operand_of_lt _ h]
  rfl

theorem decodeTxGen_load {slot : Byte} (h : slot < 8#8) :
    decodeTxGen [0b01110#5 ++ slot.extractLsb' 0 3] = .ok (.genLoad slot) := by
  have length : ∀ x : BitVec 3, genTxLength (0b01110#5 ++ x) = 1 := by decide
  rw [decodeTxGen_singleton (length _), opcode_and_mask, operand_of_lt _ h]
  rfl

/-- Wave 8 sends the byte `0x30`, which stands before the other waves in the decoder (log 19). -/
theorem decodeTxGen_wave {wave : Byte} (h1 : 1#8 ≤ wave) (h8 : wave ≤ 8#8) :
    decodeTxGen [0b00110#5 ++ wave.extractLsb' 0 3] = .ok (.genSetWave wave) := by
  by_cases eight : wave = 8#8
  · rw [eight]
    rfl
  · have below : wave < 8#8 := by bv_omega
    have length : ∀ x : BitVec 3, genTxLength (0b00110#5 ++ x) = 1 := by decide
    have not_eight : 0b00110#5 ++ wave.extractLsb' 0 3 ≠ 0x30#8 := fun e => by
      have zero : wave = 0#8 := by rw [← operand_of_lt 0b00110#5 below, e]; rfl
      bv_omega
    rw [decodeTxGen_singleton (length _), opcode_and_mask, operand_of_lt _ below, if_neg not_eight]
    rfl

theorem decodeTxGen_filter {f : Byte} (h : f < 4#8) :
    decodeTxGen [0x46#8, 0b000000#6 ++ f.extractLsb' 0 2] = .ok (.genSetFilter f) := by
  have low : ∀ f : Byte, f < 4#8 → 0b000000#6 ++ f.extractLsb' 0 2 = f := by decide
  have mask : ∀ f : Byte, f < 4#8 → f &&& 0xFC#8 = 0x00#8 := by decide
  have length : genTxLength 0x46#8 = 2 := by decide
  rw [low f h]
  simp [decodeTxGen, length, mask f h]

/-! ### The frequency word (30_encoding R107, R111) -/

theorem append_next_byte (f : BitVec 32) (k n len : Nat) (h : n = k + 8) :
    f.extractLsb' n len ++ f.extractLsb' k 8 = f.extractLsb' k (len + 8) :=
  BitVec.extractLsb'_append_extractLsb'_eq_extractLsb' h

/-- The three bytes of a frequency word, most significant first, are its low 24 bits. -/
theorem frequency_bytes_append (f : BitVec 32) :
    f.extractLsb' 16 8 ++ f.extractLsb' 8 8 ++ f.extractLsb' 0 8 = f.extractLsb' 0 24 := by
  rw [append_next_byte f 8 16 8 rfl, append_next_byte f 0 8 16 rfl]

/-- Below `2^24` they are all of it. -/
theorem frequency_bytes_append_of_lt {f : BitVec 32} (h : f < 0x01000000#32) :
    0x00#8 ++ f.extractLsb' 16 8 ++ f.extractLsb' 8 8 ++ f.extractLsb' 0 8 = f := by
  have top : 0x00#8 = f.extractLsb' 24 8 := by
    apply BitVec.eq_of_toNat_eq
    rw [BitVec.extractLsb'_toNat, Nat.shiftRight_eq_div_pow]
    bv_omega
  rw [top, append_next_byte f 16 24 8 rfl, append_next_byte f 8 16 16 rfl, append_next_byte f 0 8 24 rfl]
  exact BitVec.extractLsb'_eq_self

theorem decodeTxGen_frequency {f : BitVec 32} (h : f < 0x01000000#32) :
    decodeTxGen (encodeFrequency f) = .ok (.genSetFrequency f) := by
  have word : ((0x00#8 ++ f.extractLsb' 16 8 ++ f.extractLsb' 8 8 ++ f.extractLsb' 0 8).setWidth 32) = f :=
    (BitVec.setWidth_eq _).trans (frequency_bytes_append_of_lt h)
  exact congrArg (fun w => Except.ok (Instr.genSetFrequency w)) word

/-! ### The trigger level (30_encoding R106, R115) -/

/-- Inside the clamp's bounds the six-bit field is the level plus 32. -/
theorem encodeTrigger_toNat {level : BitVec 32} (hlo : -31 ≤ level.toInt) (hhi : level.toInt ≤ 31) :
    ((encodeTrigger level).toNat : Int) = 160 + level.toInt := by
  rw [← Machine.triggerByte_eq_encodeTrigger, Machine.triggerByte_toNat, Machine.clamp_eq]
  omega

/-- Taking the bias off the field gives back the level. -/
theorem trigger_field {level : BitVec 32} (hlo : -31 ≤ level.toInt) (hhi : level.toInt ≤ 31) :
    (encodeTrigger level &&& 0x3F#8).setWidth 32 - 32#32 = level := by
  have byte := encodeTrigger_toNat hlo hhi
  have field : ((encodeTrigger level &&& 0x3F#8).setWidth 32).toNat = (encodeTrigger level).toNat % 64 := by
    rw [BitVec.toNat_setWidth, Machine.byte_low6]
    omega
  rw [BitVec.toInt_eq_toNat_cond] at byte hlo hhi
  bv_omega

theorem decodeTxCnt_trigger {level : BitVec 32} (hlo : -31 ≤ level.toInt) (hhi : level.toInt ≤ 31) :
    decodeTxCnt [encodeTrigger level] = .ok (.cntSetTrigger level) := by
  have pattern : ∀ b : Byte, 0x81 ≤ b.toNat → b.toNat < 0xC0 → b &&& 0xC0#8 = 0x80#8 ∧ b ≠ 0x80#8 := by decide
  have byte := encodeTrigger_toNat hlo hhi
  have trigger := pattern (encodeTrigger level) (by omega) (by omega)
  rw [decodeTxCnt, if_pos trigger, trigger_field hlo hhi]

end Sys2Proof
end

section
/-! The obligations about sent words (30_encoding). -/

namespace Sys2Proof.Machine

/-- Settles O53: command by command, the transmit decoder on the encoded fields; the operands in bounds are what the
masks and the clamp leave alone. -/
theorem sentCommandsReadBack : Obligations.SentCommandsReadBack := by
  unfold Obligations.SentCommandsReadBack
  intro i h
  cases i with
  | cntSetTrigger level =>
    simp only [Instr.encodable, Bool.and_eq_true, decide_eq_true_iff] at h
    obtain ⟨hlo, hhi⟩ := h
    exact decodeTxCnt_trigger hlo hhi
  | genSave slot => exact decodeTxGen_save (of_decide_eq_true h)
  | genLoad slot => exact decodeTxGen_load (of_decide_eq_true h)
  | genSetWave wave =>
    simp only [Instr.encodable, Bool.and_eq_true, decide_eq_true_iff] at h
    obtain ⟨h1, h8⟩ := h
    have sends : wave ≠ 0#8 := by bv_omega
    rw [encode, if_neg sends]
    exact decodeTxGen_wave h1 h8
  | genSetFilter f => exact decodeTxGen_filter (of_decide_eq_true h)
  | genSetFrequency f => exact decodeTxGen_frequency (of_decide_eq_true h)
  | genSetAmplitude | genSetOffset | genRequestState => rfl
  | _ => cases h

/-- Settles O6: the two receive words by evaluation of the decoder, the four commands as encodings that read back. -/
theorem writtenOutWordsDecode : Obligations.WrittenOutWordsDecode := by
  unfold Obligations.WrittenOutWordsDecode
  have trigger : decodeTx .cnt [encodeTrigger (BitVec.ofInt 32 (-5))] = .ok (.cntSetTrigger (BitVec.ofInt 32 (-5))) :=
    sentCommandsReadBack (.cntSetTrigger (BitVec.ofInt 32 (-5))) (by decide)
  have field : encodeTrigger (BitVec.ofInt 32 (-5)) = 0b10011011#8 := by decide
  exact ⟨rfl, rfl, sentCommandsReadBack (.genSave 3#8) rfl, sentCommandsReadBack (.genSetFilter 2#8) rfl,
    sentCommandsReadBack (.genSetFrequency 7550#32) rfl, field ▸ trigger⟩

end Sys2Proof.Machine
end

section
/-! The receive tables (30_encoding R131): the operation a byte selects has the byte as its encoding and the sequencing
state as its context, and a receive operation is determined by these two. -/

namespace Sys2Proof

theorem encode_decodeCnt (stage : CntStage) (b : Byte) : encode (decodeCnt stage b) = [b] := by
  cases stage with
  | awaitSentinel =>
    by_cases h : b = Config.cntSentinel <;> simp [decodeCnt, encode, h]
  | awaitRange => rfl
  | collectingNibble n =>
    by_cases h : n.val < 5 <;> simp [decodeCnt, encode, h]

theorem encode_decodeGen (awaiting : Bool) (rxlen : BitVec 4) (b : Byte) :
    encode (decodeGen awaiting rxlen b) = [b] := by
  have memory : ∀ b : Byte, Config.genMemFirst ≤ b ∧ b ≤ Config.genMemLast → 0b00110#5 ++ b.setWidth 3 = b := by
    decide
  unfold decodeGen
  split_ifs with hawait hmem hack hpkt hlen
  · rw [encode, memory b hmem]
  · rw [hack]; rfl
  · rw [hpkt]; rfl
  · rfl
  · rfl
  · rfl

theorem encode_decodeVam (cmd : VamCmd) (latchFull : Bool) (b : Byte) : encode (decodeVam cmd latchFull b) = [b] := by
  unfold decodeVam
  split
  case isTrue => rfl
  case isFalse =>
    cases cmd with
    | none | vRange | iRange2A | iRange600mA => rfl
    | vZero | vGain | iZero | iGain | vSample | iSample => cases latchFull <;> rfl

/-- The encoding of the operation a received byte selects is that byte. -/
theorem encode_decodeRx (q : SeqState) (u : UnitId) (b : Byte) : encode (decodeRx q u b) = [b] := by
  cases u with
  | cnt => exact encode_decodeCnt _ b
  | gen => exact encode_decodeGen _ _ b
  | vam => exact encode_decodeVam _ _ b

variable {q : SeqState}

theorem selects_decodeCnt (b : Byte) : q.selects (decodeCnt q.cntStage b) := by
  cases hstage : q.cntStage with
  | awaitSentinel =>
    by_cases h : b = Config.cntSentinel <;> simp [decodeCnt, SeqState.selects, h, hstage]
  | awaitRange => exact hstage
  | collectingNibble n =>
    by_cases h : n.val < 5
    · simp [decodeCnt, SeqState.selects, h, hstage]
    · have last : n = 5 := Fin.ext (by show n.val = 5; omega)
      simp [decodeCnt, SeqState.selects, hstage, last]

/-- Inside a packet this needs a buffer index that the packet can have (42_generator_decoder R184). -/
theorem selects_decodeGen (b : Byte) (h : q.genAwaiting = true → 1 ≤ q.genRxlen.toNat ∧ q.genRxlen.toNat ≤ 9) :
    q.selects (decodeGen q.genAwaiting q.genRxlen b) := by
  unfold decodeGen
  split_ifs with hawait hmem hack hpkt hlen
  · exact hawait
  · exact hawait
  · exact hawait
  · exact hawait
  · have inPacket : q.genAwaiting = true := by simpa using hawait
    exact ⟨inPacket, (h inPacket).1, Nat.le_of_lt_succ ((Laws.rxlen_lt _).1 hlen)⟩
  · have inPacket : q.genAwaiting = true := by simpa using hawait
    have full : 9 ≤ q.genRxlen.toNat := not_lt.1 (mt (Laws.rxlen_lt _).2 hlen)
    exact ⟨inPacket, Nat.le_antisymm (h inPacket).2 full⟩

theorem selects_decodeVam (b : Byte) : q.selects (decodeVam q.vamCmd q.vamLatchFull b) := by
  unfold decodeVam
  split
  case isTrue => trivial
  case isFalse =>
    cases hcmd : q.vamCmd with
    | none | vRange | iRange2A | iRange600mA => exact hcmd
    | vZero | vGain | iZero | iGain | vSample | iSample =>
      cases hlatch : q.vamLatchFull <;> simp [SeqState.selects, hcmd, hlatch]

/-- The operation a received byte selects has the sequencing state as its context. -/
theorem selects_decodeRx (u : UnitId) (b : Byte)
    (h : q.genAwaiting = true → 1 ≤ q.genRxlen.toNat ∧ q.genRxlen.toNat ≤ 9) : q.selects (decodeRx q u b) := by
  cases u with
  | cnt => exact selects_decodeCnt b
  | gen => exact selects_decodeGen b h
  | vam => exact selects_decodeVam b

/-- A receive operation is strobed by its encoding on the rx port of its unit. -/
theorem toInput_of_rx {j : Instr} {b : Byte} (hkind : j.kind = .rx) (hbyte : encode j = [b]) :
    j.toInput = .rx j.unit b := by
  cases j with
  | cntSetMode | cntSetTrigger | genSave | genLoad | genSetWave | genSetFilter | genSetAmplitude | genSetOffset
  | genSetFrequency | genRequestState | genSetFreqHz | vamCalLoad | vamCalUnload | reset => cases hkind
  | _ => cases hbyte; rfl

/-- No byte selects two operations: one whose context and encoding fit is the one the decoder answers. -/
theorem eq_decodeRx {j : Instr} {b : Byte} (hkind : j.kind = .rx) (hctx : q.selects j) (hwf : j.wf = true)
    (hbyte : encode j = [b]) : j = decodeRx q j.unit b := by
  have own : decode q j.toInput = j := Machine.decode_toInput j q hctx hwf
  rw [toInput_of_rx hkind hbyte] at own
  exact own.symm

end Sys2Proof
end

section
/-! The packet map (20_memory R83): what `GEN.LAST` reads out of the receive buffer (42_generator_decoder R174). -/

namespace Sys2Proof.Machine

/-- The frequency is read from the buffer registers 2 to 4, the first most significant. -/
theorem memRead3_frequency (buf : Vector Byte 10) :
    memRead3 buf 2 = memRead buf 2 ++ memRead buf 3 ++ memRead buf 4 := rfl

/-- No configuration register is read from byte 9 of a packet. -/
theorem parsePacket_memWrite_last (r : GenRegs) (buf : Vector Byte 10) (b : Byte) :
    parsePacket r (memWrite buf 9 b) = { parsePacket r buf with rxbuf := memWrite buf 9 b } := by
  have kept (i : Fin 10) (hi : 9 ≠ i) : memRead (memWrite buf 9 b) i = memRead buf i :=
    memRead_memWrite_other buf 9 i b hi
  simp [parsePacket, memRead3_frequency, kept]

end Sys2Proof.Machine
end

section
/-! The obligations about received bytes and about the frequency word (30_encoding R131, R110, R111). -/

namespace Sys2Proof.Machine

/-- Settles O44: what the decoder answers, and that any operation with its context and encoding is that answer. -/
theorem everyByteSelectsOneOperation : Obligations.EveryByteSelectsOneOperation := by
  unfold Obligations.EveryByteSelectsOneOperation
  intro q u b table
  obtain ⟨hwf, hkind, hunit⟩ := decodeRx_wf_kind_unit q u b
  refine ⟨selects_decodeRx u b table, hwf, hkind, hunit, encode_decodeRx q u b, ?only⟩
  case only =>
    rintro j jkind rfl jctx jwf jbyte
    exact eq_decodeRx jkind jctx jwf jbyte

/-- The frequency `GEN.LAST` stores is the one in buffer registers 2 to 4 (42_generator_decoder R174), whatever byte 9
is. -/
theorem frequency_execGenLast {s t : State} {b : Byte} (h : exec (.genLast b) s = .next t) :
    t.gen.frequency = s.gen.rxbuf[2] ++ s.gen.rxbuf[3] ++ s.gen.rxbuf[4] := by
  have parsed : t.gen = parsePacket s.gen (memWrite s.gen.rxbuf 9 b) := by cases h; rfl
  rw [parsed, parsePacket_memWrite_last]
  rfl

/-- The low 24 bits of the 32-bit two's complement of a 24-bit integer are read as that integer. -/
theorem toInt_low24_ofInt {v : Int} (hlo : -8388608 ≤ v) (hhi : v ≤ 8388607) :
    ((BitVec.ofInt 32 v).extractLsb' 0 24).toInt = v := by
  rw [← BitVec.setWidth_eq_extractLsb' (by omega), BitVec.toInt_setWidth, BitVec.toNat_ofInt]
  rw [Int.bmod_def]
  omega

/-- Settles O51: the three bytes are the low 24 bits of the word, and `GEN.LAST` puts them together again. -/
theorem signedFrequencyRoundTrip : Obligations.SignedFrequencyRoundTrip := by
  unfold Obligations.SignedFrequencyRoundTrip
  intro s v hlo hhi
  refine ⟨(BitVec.ofInt 32 v).extractLsb' 16 8, (BitVec.ofInt 32 v).extractLsb' 8 8,
    (BitVec.ofInt 32 v).extractLsb' 0 8, ?sent, ?received⟩
  case sent =>
    have sends : exec (.genSetFrequency (BitVec.ofInt 32 v)) s =
        .next ((s.sendGen (encodeFrequency (BitVec.ofInt 32 v))).retGen .ok) := by
      rw [← frequencyBytes_eq_encodeFrequency]
      rfl
    simp [sends, State.sendGen, State.retGen, encodeFrequency]
  case received =>
    intro s' t b h2 h1 h0 hlast
    rw [frequency_execGenLast hlast, h2, h1, h0, frequency_bytes_append, toInt_low24_ofInt hlo hhi]

end Sys2Proof.Machine
end

section
/-! What a strobe does wherever an operation is selected: the decoder answers that operation (30_encoding R130). -/

namespace Sys2Proof.Machine

/-- In an operation's context its input executes it. -/
theorem inputStep_toInput {i : Instr} {s : State} (hctx : s.seq.selects i) (hwf : i.wf = true) :
    inputStep i.toInput s = exec i s := by
  rw [inputStep, decode_toInput i s.seq hctx hwf]

/-- A byte that executes an operation which completes is followed by the rest of the bytes. -/
theorem feed_cons_of_exec {u : UnitId} {b : Byte} {i : Instr} {s t : State} (hexec : exec i s = .next t)
    (hinput : i.toInput = .rx u b) (hctx : s.seq.selects i) (hwf : i.wf = true) (bs : List Byte) :
    feed u (b :: bs) s = feed u bs t :=
  feed_cons_of_inputStep u b bs s t (by rw [← hinput, inputStep_toInput hctx hwf, hexec])

/-- The last byte of a run leaves the unit where its operation does. -/
theorem feed_singleton_of_exec {u : UnitId} {b : Byte} {i : Instr} {s t : State} (hexec : exec i s = .next t)
    (hinput : i.toInput = .rx u b) (hctx : s.seq.selects i) (hwf : i.wf = true) : feed u [b] s = .next t :=
  feed_cons_of_exec hexec hinput hctx hwf []

end Sys2Proof.Machine
end

section
/-! A counter frame (40_counter_decoder): the range byte, then six nibbles, least significant first. -/

namespace Sys2Proof.Machine

/-- The number that the low nibbles of a list of bytes spell, least significant first (30_encoding R109). -/
def nibblesValue (bs : List Byte) : Nat :=
  Nat.ofDigits 16 (bs.map fun b => b.toNat % 16)

@[simp] theorem nibblesValue_nil : nibblesValue [] = 0 := rfl

@[simp] theorem nibblesValue_cons (b : Byte) (bs : List Byte) :
    nibblesValue (b :: bs) = b.toNat % 16 + 16 * nibblesValue bs :=
  Nat.ofDigits_cons ..

/-- `CNT.RANGE` stores the byte and reports it when it is a change (40_counter_decoder R144). -/
theorem execCntRange_eq (b : Byte) (s : State) :
    execCntRange b s =
      .next
        { s with
          cnt := { s.cnt with range := b, rangeValid := true, stage := .collectingNibble 0 }
          cntOut :=
            s.cntOut ++ if s.cnt.rangeValid = false ∨ b ≠ s.cnt.range then [.ev (.rangeChanged b)] else [] } := by
  by_cases changed : s.cnt.rangeValid = false ∨ b ≠ s.cnt.range
  · have test : cntRangeChanged s.cnt b = true := by simpa [cntRangeChanged] using changed
    simp only [execCntRange, test, if_pos changed]
    rfl
  · have test : cntRangeChanged s.cnt b = false := by simpa [cntRangeChanged] using changed
    simp [execCntRange, test, if_neg changed, State.setCnt]

/-- Up to five nibbles are collected into the accumulator, each above the ones before it (40_counter_decoder R146). -/
theorem feed_nibbles (bs : List Byte) (s : State) (n m : Fin 6) (hstage : s.cnt.stage = .collectingNibble n)
    (hacc : s.cnt.acc.toNat < 16 ^ n.val) (hm : m.val = n.val + bs.length) :
    ∃ acc : BitVec 24, feed .cnt bs s = .next (s.setCnt { s.cnt with acc := acc, stage := .collectingNibble m }) ∧
      acc.toNat = s.cnt.acc.toNat + 16 ^ n.val * nibblesValue bs ∧ acc.toNat < 16 ^ m.val := by
  induction bs generalizing s n with
  | nil =>
    obtain rfl : m = n := Fin.ext hm
    exact ⟨s.cnt.acc, by rw [← hstage]; rfl, by simp, hacc⟩
  | cons b bs ih =>
    rw [List.length_cons] at hm
    obtain ⟨k, rfl⟩ : ∃ k : Fin 5, n = k.castSucc := ⟨⟨n.val, by omega⟩, rfl⟩
    have hk : k.val ≤ 5 := by omega
    have hsum := acc_or_nibble s.cnt.acc k.val hk b hacc
    have hbound : (s.cnt.acc ||| nibbleAt k.val b).toNat < 16 ^ (k.val + 1) := by
      have hb : b.toNat % 16 < 16 := Nat.mod_lt _ (by norm_num)
      have hacc' : s.cnt.acc.toNat < 16 ^ k.val := hacc
      rw [hsum, pow_succ]
      nlinarith
    obtain ⟨acc, hfeed, hvalue, hlt⟩ :=
      ih (s.setCnt { s.cnt with acc := s.cnt.acc ||| nibbleAt k.val b, stage := .collectingNibble k.succ }) k.succ rfl
        hbound (by rw [hm, Fin.val_succ, Fin.val_castSucc]; omega)
    refine ⟨acc, ?fed, ?value, hlt⟩
    case fed => exact (feed_cons_of_exec (i := .cntNib k b) rfl rfl hstage rfl bs).trans hfeed
    case value =>
      have hvalue' : acc.toNat = (s.cnt.acc ||| nibbleAt k.val b).toNat + 16 ^ (k.val + 1) * nibblesValue bs := hvalue
      rw [hvalue', hsum, nibblesValue_cons, Fin.val_castSucc, pow_succ]
      ring

/-- What the sixth nibble reports, by range byte (40_counter_decoder R141, R147, R149, R150). -/
theorem reportCounterValue_counterHertz (r : Byte) (v : BitVec 24) (s : State) :
    reportCounterValue (counterHertz r v) s =
      { s with
        cntOut :=
          s.cntOut ++
            if r = 0x41#8 then [.ev (.measurement (num (256 * (v.toNat : ℚ))))]
            else if r = 0x42#8 then [.ev (.measurement (num (2 * (v.toNat : ℚ))))]
            else if r = 0x43#8 then
              if v.toNat = 0 then [.ev (.decodeError .divideByZero)]
              else [.ev (.measurement (num (2000000 / (v.toNat : ℚ))))]
            else if r = 0x61#8 then [.ev (.measurement (num (128 * (v.toNat : ℚ) / 5)))]
            else if r = 0x62#8 then [.ev (.measurement (num ((v.toNat : ℚ) / 5)))]
            else [] } := by
  have zero : v = 0#24 ↔ v.toNat = 0 := by rw [← BitVec.toNat_inj, BitVec.toNat_zero]
  have scale : (2 * 128 : ℚ) = 256 := by norm_num
  simp only [counterHertz, zero, scale]
  split_ifs <;> simp [reportCounterValue, State.emitCnt, State.raise]

theorem reportCounterValue_setCnt (v : CounterValue) (r r' : CntRegs) (s : State) :
    (reportCounterValue v (s.setCnt r)).setCnt r' = (reportCounterValue v s).setCnt r' := by
  cases v <;> rfl

/-- A whole value, from its first nibble: it is converted by the formula of the stored range, and the unit waits for the
next frame (40_counter_decoder R147). -/
theorem feed_value (n0 n1 n2 n3 n4 n5 : Byte) (s : State) (hstage : s.cnt.stage = .collectingNibble 0)
    (hacc : s.cnt.acc = 0#24) :
    ∃ v : BitVec 24, v.toNat = nibblesValue [n0, n1, n2, n3, n4, n5] ∧
      feed .cnt [n0, n1, n2, n3, n4, n5] s =
        .next
          ((reportCounterValue (counterHertz s.cnt.range v) s).setCnt
            { s.cnt with acc := 0#24, stage := .awaitSentinel }) := by
  obtain ⟨acc, hfive, hvalue, hlt⟩ := feed_nibbles [n0, n1, n2, n3, n4] s 0 5 hstage (by simp [hacc]) rfl
  refine ⟨acc ||| nibbleAt 5 n5, ?value, ?fed⟩
  case value =>
    rw [acc_or_nibble acc 5 le_rfl n5 hlt, hvalue, hacc]
    simp only [nibblesValue_cons, nibblesValue_nil, BitVec.toNat_zero]
    norm_num
    ring
  case fed =>
    have hlast : feed .cnt [n5] (s.setCnt { s.cnt with acc := acc, stage := .collectingNibble 5 }) = _ :=
      feed_singleton_of_exec (i := .cntNib5 n5) rfl rfl rfl rfl
    refine (feed_append hfive [n5]).trans (hlast.trans ?_)
    simp only [setCnt_cnt, reportCounterValue_setCnt]

end Sys2Proof.Machine
end

section
/-! The obligation about counter frames (40_counter_decoder). -/

namespace Sys2Proof.Machine

/-- Settles O57: sentinel and range byte one step each, then `feed_value`. -/
theorem counterFrameDecodes : Obligations.CounterFrameDecodes := by
  unfold Obligations.CounterFrameDecodes
  intro s r n0 n1 n2 n3 n4 n5 val hstage hacc hval
  obtain ⟨v, hv, hvalue⟩ := feed_value n0 n1 n2 n3 n4 n5
    { s with
      cnt := { s.cnt with range := r, rangeValid := true, stage := .collectingNibble 0 }
      cntOut :=
        s.cntOut ++ if s.cnt.rangeValid = false ∨ r ≠ s.cnt.range then [.ev (.rangeChanged r)] else [] } rfl hacc
  have hv' : v.toNat = val := by
    rw [hv, hval]
    simp only [nibblesValue_cons, nibblesValue_nil]
    ring
  have hsent := feed_cons_of_exec (i := .cntSent) (s := s) rfl rfl hstage rfl
  have hrange := feed_cons_of_exec (execCntRange_eq r (s.setCnt { s.cnt with stage := .awaitRange })) (i := .cntRange r)
    rfl rfl rfl
  rw [reportCounterValue_counterHertz, hv'] at hvalue
  exact (hsent _).trans ((hrange _).trans hvalue)

end Sys2Proof.Machine
end

section
/-! A state packet (42_generator_decoder): its bytes fill the receive buffer in order, and the last one parses it. -/

namespace Sys2Proof.Machine

/-- A buffer holds the bytes `bs` from index `k` on. -/
def HoldsFrom (buf : Vector Byte 10) (k : Nat) (bs : List Byte) : Prop :=
  ∀ (j : Nat) (hj : j < bs.length) (hk : k + j < 10), memRead buf ⟨k + j, hk⟩ = bs[j]

/-- Data bytes of a packet are stored in order, each at the next index (42_generator_decoder R173), and the ones stored
before stay. -/
theorem feed_packet_data (bs : List Byte) (s : State) (k : Nat) (hawait : s.gen.awaiting = true) (hfirst : 1 ≤ k)
    (hlen : s.gen.rxlen = BitVec.ofNat 4 k) (room : k + bs.length ≤ 9) :
    ∃ buf, feed .gen bs s =
        .next (s.setGen { s.gen with rxbuf := buf, rxlen := BitVec.ofNat 4 (k + bs.length) }) ∧
      HoldsFrom buf k bs ∧ ∀ i : Fin 10, i.val < k → memRead buf i = memRead s.gen.rxbuf i := by
  induction bs generalizing s k with
  | nil => exact ⟨s.gen.rxbuf, by rw [List.length_nil, Nat.add_zero, ← hlen]; rfl, nofun, fun _ _ => rfl⟩
  | cons b bs ih =>
    rw [List.length_cons] at room
    have hk : s.gen.rxlen.toNat = k := by rw [hlen, BitVec.toNat_ofNat]; omega
    have hctx : s.seq.selects (.genData b) := ⟨hawait, hk ▸ hfirst, by show s.gen.rxlen.toNat ≤ 8; omega⟩
    have hdata := feed_cons_of_exec (execGenData_of_lt s b (by omega)) (i := .genData b) rfl hctx rfl bs
    obtain ⟨buf, hfeed, hnew, hold⟩ :=
      ih (s.setGen
        { s.gen with
          rxbuf := memWrite s.gen.rxbuf ⟨s.gen.rxlen.toNat, by omega⟩ b
          rxlen := s.gen.rxlen + 1#4 }) (k + 1) hawait (by omega) (by rw [BitVec.ofNat_add, ← hlen]; rfl) (by omega)
    refine ⟨buf, ?fed, ?new, ?old⟩
    case fed =>
      rw [hdata, hfeed, List.length_cons, Nat.add_assoc, Nat.add_comm 1]
      rfl
    case new =>
      intro j hj hkj
      cases j with
      | zero =>
        rw [List.getElem_cons_zero, hold _ (by simp)]
        have place : (⟨k + 0, hkj⟩ : Fin 10) = ⟨s.gen.rxlen.toNat, by omega⟩ := Fin.ext hk.symm
        rw [place]
        exact memRead_memWrite_same ..
      | succ j =>
        have place : (⟨k + (j + 1), hkj⟩ : Fin 10) = ⟨k + 1 + j, by omega⟩ := Fin.ext (by simp only; omega)
        rw [List.getElem_cons_succ, place]
        exact hnew j _ _
    case old =>
      intro i hi
      rw [hold i (by omega)]
      exact memRead_memWrite_other _ _ _ _ (fun e => by rw [← e] at hi; simp only at hi; omega)

/-- A frequency read from three bytes, most significant first (30_encoding R110). -/
theorem toNat_three_bytes (b2 b1 b0 : Byte) :
    (b2 ++ b1 ++ b0).toNat = b2.toNat * 65536 + b1.toNat * 256 + b0.toNat := by
  rw [BitVec.toNat_append, ← Nat.shiftLeft_add_eq_or_of_lt b0.isLt, BitVec.toNat_append,
    ← Nat.shiftLeft_add_eq_or_of_lt b1.isLt]
  omega

/-- A slot byte is reduced to its low three bits (42_generator_decoder R183). -/
theorem slotOf_toNat : ∀ b : Byte, (slotOf b).toNat = b.toNat % 8 := by decide

theorem amplitudeToVolts_eq (a : Byte) : amplitudeToVolts a = (a.toNat : ℚ) * (481 / 100) / 255 := by
  rw [amplitudeToVolts, Config.voltsPerUnit, mul_div_assoc]

/-- A whole packet, from its sentinel: the configuration is parsed from a buffer that holds bytes 1 to 8 of it, and its
event is appended (42_generator_decoder R174). -/
theorem feed_packet (p1 p2 p3 p4 p5 p6 p7 p8 p9 : Byte) (s : State) (hawait : s.gen.awaiting = false) :
    ∃ buf, HoldsFrom buf 1 [p1, p2, p3, p4, p5, p6, p7, p8] ∧
      feed .gen [0xD2#8, p1, p2, p3, p4, p5, p6, p7, p8, p9] s =
        .next
          ((s.emitGen (stateUpdatedEvent (parsePacket s.gen buf))).setGen
            { parsePacket s.gen buf with rxbuf := memWrite buf 9 p9 }) := by
  obtain ⟨buf, hdata, hbuf, -⟩ := feed_packet_data [p1, p2, p3, p4, p5, p6, p7, p8]
    (s.setGen { s.gen with rxbuf := memWrite s.gen.rxbuf 0 Config.genSentinel, rxlen := 1#4, awaiting := true }) 1
    rfl le_rfl rfl (by simp)
  have hopen := feed_cons_of_exec (i := .genPkt) (s := s) rfl rfl hawait rfl
  have hlast := feed_singleton_of_exec (i := .genLast p9)
    (s := s.setGen { s.gen with rxbuf := buf, rxlen := 9#4, awaiting := true }) rfl rfl ⟨rfl, rfl⟩ rfl
  refine ⟨buf, hbuf, ((hopen _).trans ((feed_append hdata [p9]).trans hlast)).trans ?_⟩
  simp only [setGen_gen, parsePacket_memWrite_last]
  rfl

end Sys2Proof.Machine
end

section
/-! The obligation about state packets (42_generator_decoder). -/

namespace Sys2Proof.Machine

/-- Settles O58: `feed_packet`, with each field of the parsed configuration read at its place of the packet map. -/
theorem generatorPacketDecodes : Obligations.GeneratorPacketDecodes := by
  unfold Obligations.GeneratorPacketDecodes
  intro s p1 p2 p3 p4 p5 p6 p7 p8 p9 hawait
  obtain ⟨buf, hbuf, hfeed⟩ := feed_packet p1 p2 p3 p4 p5 p6 p7 p8 p9 s hawait
  have h1 : memRead buf 1 = p1 := hbuf 0 (by simp) (by omega)
  have h2 : memRead buf 2 = p2 := hbuf 1 (by simp) (by omega)
  have h3 : memRead buf 3 = p3 := hbuf 2 (by simp) (by omega)
  have h4 : memRead buf 4 = p4 := hbuf 3 (by simp) (by omega)
  have h5 : memRead buf 5 = p5 := hbuf 4 (by simp) (by omega)
  have h6 : memRead buf 6 = p6 := hbuf 5 (by simp) (by omega)
  have h7 : memRead buf 7 = p7 := hbuf 6 (by simp) (by omega)
  have h8 : memRead buf 8 = p8 := hbuf 7 (by simp) (by omega)
  refine ⟨_, _, hfeed, ?wave, ?frequency, h5, h6, ?filter, ?slot, rfl, rfl, rfl, ?frame⟩
  case wave => rw [← h1]; exact waveOf_code _
  case frequency => rw [← h2, ← h3, ← h4]; exact toNat_three_bytes _ _ _
  case filter => rw [← h7]; exact filterOf_code _
  case slot => rw [← h8]; exact slotOf_toNat _
  case frame =>
    rw [← amplitudeToVolts_eq, ← offsetToVolts_eq, ← h6]
    rfl

end Sys2Proof.Machine
end

section
/-! The bytes of a run of 10-bit values (30_encoding R112): two data bytes for each value, and the control byte that
closes the run (44_vameter_decoder R232). -/

namespace Sys2Proof.Machine

/-! ### The two data bytes of a value -/

/-- The first data byte of a value: its low six bits. -/
def lowByte (v : BitVec 10) : Byte := 0x00#2 ++ v.extractLsb' 0 6

/-- The second data byte of a value: its high four bits. -/
def highByte (v : BitVec 10) : Byte := 0x0#4 ++ v.extractLsb' 6 4

theorem runBytes_cons (v : BitVec 10) (vs : List (BitVec 10)) :
    runBytes (v :: vs) = lowByte v :: highByte v :: runBytes vs := rfl

theorem lowByte_toNat (v : BitVec 10) : (lowByte v).toNat = v.toNat % 64 :=
  (BitVec.toNat_append _ _).trans (by simp)

theorem highByte_toNat (v : BitVec 10) : (highByte v).toNat = v.toNat / 64 := by
  have hv := v.isLt
  refine (BitVec.toNat_append _ _).trans ?_
  simp only [BitVec.toNat_zero, Nat.zero_shiftLeft, Nat.zero_or, BitVec.extractLsb'_toNat, Nat.shiftRight_eq_div_pow]
  omega

/-- The two data bytes carry the value whole. -/
theorem raw10_bytes (v : BitVec 10) : raw10 (highByte v) (lowByte v) = v := by
  have hv := v.isLt
  apply BitVec.eq_of_toNat_eq
  rw [raw10_toNat, lowByte_toNat, highByte_toNat]
  omega

/-- The second data byte completes the value whose first one is latched. -/
theorem completedRaw_latchLow (v : BitVec 10) (s : State) :
    completedRaw (highByte v) (latchLow (lowByte v) s) = v.toNat :=
  congrArg (fun w : BitVec 10 => (w.toNat : ℚ)) (raw10_bytes v)

theorem lowByte_msb (v : BitVec 10) : (!(lowByte v).msb) = true := by
  rw [BitVec.msb_eq_decide, lowByte_toNat]
  simp only [Bool.not_eq_true', decide_eq_false_iff_not]
  omega

theorem highByte_msb (v : BitVec 10) : (!(highByte v).msb) = true := by
  have hv := v.isLt
  rw [BitVec.msb_eq_decide, highByte_toNat]
  simp only [Bool.not_eq_true', decide_eq_false_iff_not]
  omega

/-! ### The control byte that closes a run -/

/-- A byte with bit 7 set closes the run, clears the run registers and selects the next command (44_vameter_decoder
R232). -/
theorem feed_control {b : Byte} (hb : 0x80 ≤ b.toNat) (s : State) :
    feed .vam [b] s =
      .next
        { finalise s with
          vam := { (finalise s).vam with sum := 0, count := 0, latchFull := false, cmd := vamCmdOf b }
          vamOut :=
            (finalise s).vamOut ++
              if vamCmdOf b = .none then [.ev (.decodeError .unknownControl (some b))] else [] } := by
  have control : b.msb = true := by rw [BitVec.msb_eq_decide, decide_eq_true_iff]; exact hb
  have hctrl := feed_singleton_of_exec (i := .vamCtrl b) (s := s) rfl rfl trivial control
  rwa [selectCommand_clearRun] at hctrl

end Sys2Proof.Machine
end

section
/-! A run of values under a reference command (44_vameter_decoder R239, R240, R243): they are added up and counted, and
closing the run stores their mean. -/

namespace Sys2Proof.Machine

theorem mem_reference {cmd : VamCmd} (h : isReferenceCmd cmd = true) : cmd ∈ [VamCmd.vZero, .vGain, .iZero, .iGain] := by
  cases cmd <;> simp [isReferenceCmd] at h ⊢

/-- The registers after values that add up to `total`, `n` of them. -/
def VamRegs.collect (r : VamRegs) (low : Byte) (total : ℚ) (n : Nat) : VamRegs :=
  { r with sampleLow := low, latchFull := false, sum := r.sum + total, count := r.count + n }

theorem collect_collect (r : VamRegs) (low low' : Byte) (x y : ℚ) (m n : Nat) :
    (r.collect low x m).collect low' y n = r.collect low' (x + y) (m + n) := by
  simp [VamRegs.collect, add_assoc]

theorem collect_nothing {r : VamRegs} (h : r.latchFull = false) : r.collect r.sampleLow 0 0 = r := by
  cases r
  simp_all [VamRegs.collect]

/-- One value of a reference run is added to the sum (44_vameter_decoder R239, R240). -/
theorem feed_reference_value {s : State} (href : isReferenceCmd s.vam.cmd = true) (hlatch : s.vam.latchFull = false)
    (v : BitVec 10) (bs : List Byte) :
    feed .vam (lowByte v :: highByte v :: bs) s = feed .vam bs (s.setVam (s.vam.collect (lowByte v) v.toNat 1)) := by
  have hlow := feed_cons_of_exec (i := .vamReflo (lowByte v)) (s := s) rfl rfl ⟨mem_reference href, hlatch⟩
    (lowByte_msb v) (highByte v :: bs)
  have hhigh := feed_cons_of_exec (i := .vamRefhi (highByte v)) (s := latchLow (lowByte v) s) rfl rfl
    ⟨mem_reference href, rfl⟩ (highByte_msb v) bs
  rw [completedRaw_latchLow] at hhigh
  exact hlow.trans hhigh

/-- A reference run adds up its values and counts them. -/
theorem feed_reference_run (vs : List (BitVec 10)) (s : State) (href : isReferenceCmd s.vam.cmd = true)
    (hlatch : s.vam.latchFull = false) :
    ∃ low, feed .vam (runBytes vs) s =
      .next (s.setVam (s.vam.collect low (vs.map fun v => (v.toNat : ℚ)).sum vs.length)) := by
  induction vs generalizing s with
  | nil => exact ⟨s.vam.sampleLow, by rw [List.map_nil, List.sum_nil, List.length_nil, collect_nothing hlatch]; rfl⟩
  | cons v vs ih =>
    obtain ⟨low, hfeed⟩ := ih (s.setVam (s.vam.collect (lowByte v) v.toNat 1)) href rfl
    rw [setVam_vam, collect_collect] at hfeed
    refine ⟨low, ?_⟩
    rw [runBytes_cons, feed_reference_value href hlatch, hfeed, List.map_cons, List.sum_cons, List.length_cons,
      Nat.add_comm vs.length]
    rfl

/-- Closing a reference run writes the reference of its command (44_vameter_decoder R233, R243). -/
theorem finalise_reference {s : State} (href : isReferenceCmd s.vam.cmd = true) :
    finalise s = s.setVam
      { s.vam with
        vZero := if s.vam.cmd = .vZero then referenceMean s.vam s.vam.vZero else s.vam.vZero
        vGain := if s.vam.cmd = .vGain then referenceMean s.vam s.vam.vGain else s.vam.vGain
        iZero := if s.vam.cmd = .iZero then referenceMean s.vam s.vam.iZero else s.vam.iZero
        iGain := if s.vam.cmd = .iGain then referenceMean s.vam s.vam.iGain else s.vam.iGain } := by
  cases hcmd : s.vam.cmd with
  | vZero | vGain | iZero | iGain => simp [finalise, hcmd]
  | none | vRange | iRange2A | iRange600mA | vSample | iSample => simp [isReferenceCmd, hcmd] at href

end Sys2Proof.Machine
end

section
/-! A run of values under a sample command (44_vameter_decoder R241 to R246): their squared deviations are added up, the
values and the negative deviations counted, and closing the run reports the sample. -/

namespace Sys2Proof.Machine

/-- The command under which samples of the quantity are received (44_vameter_decoder R230). -/
def sampleCmd : Quantity → VamCmd
  | .voltage => .vSample
  | .current => .iSample

theorem mem_sample (q : Quantity) : sampleCmd q ∈ [VamCmd.vSample, .iSample] := by
  cases q <;> simp [sampleCmd]

theorem sampleHigh_selected {q : Quantity} {s : State} (hcmd : s.vam.cmd = sampleCmd q)
    (hlatch : s.vam.latchFull = true) (b : Byte) : s.seq.selects (.vamSmphi q b) := by
  cases q <;> exact ⟨hcmd, hlatch⟩

/-! ### What a sample writes: the negative counter of its quantity, and the run registers -/

@[simp] theorem setNeg_cmd (r : VamRegs) (q : Quantity) (n : Nat) : (r.setNeg q n).cmd = r.cmd := by cases q <;> rfl
@[simp] theorem setNeg_zeroOf (r : VamRegs) (q : Quantity) (n : Nat) : (r.setNeg q n).zeroOf q = r.zeroOf q := by
  cases q <;> rfl
@[simp] theorem setNeg_setNeg (r : VamRegs) (q : Quantity) (m n : Nat) :
    (r.setNeg q m).setNeg q n = r.setNeg q n := by cases q <;> rfl
@[simp] theorem setNeg_self (r : VamRegs) (q : Quantity) : r.setNeg q (r.negOf q) = r := by cases q <;> rfl

theorem collect_setNeg (r : VamRegs) (q : Quantity) (n m : Nat) (low : Byte) (x : ℚ) :
    (r.collect low x m).setNeg q n = (r.setNeg q n).collect low x m := by cases q <;> rfl

@[simp] theorem collect_negOf (r : VamRegs) (q : Quantity) (low : Byte) (x : ℚ) (m : Nat) :
    (r.collect low x m).negOf q = r.negOf q := by cases q <;> rfl
@[simp] theorem collect_zeroOf (r : VamRegs) (q : Quantity) (low : Byte) (x : ℚ) (m : Nat) :
    (r.collect low x m).zeroOf q = r.zeroOf q := by cases q <;> rfl

/-- How many values lie below a reference. -/
def belowCount (zero : ℚ) (vs : List (BitVec 10)) : Nat :=
  (vs.filter fun v => decide ((v.toNat : ℚ) < zero)).length

theorem belowCount_singleton (zero : ℚ) (v : BitVec 10) :
    belowCount zero [v] = if (v.toNat : ℚ) < zero then 1 else 0 := by
  by_cases below : (v.toNat : ℚ) < zero <;> simp [belowCount, below]

theorem belowCount_cons (zero : ℚ) (v : BitVec 10) (vs : List (BitVec 10)) :
    belowCount zero (v :: vs) = belowCount zero [v] + belowCount zero vs := by
  rw [belowCount, ← List.singleton_append, List.filter_append, List.length_append]
  rfl

/-- The sum of the squared deviations of values from a reference. -/
def squaredDeviations (zero : ℚ) (vs : List (BitVec 10)) : ℚ :=
  (vs.map fun v => ((v.toNat : ℚ) - zero) ^ 2).sum

theorem squaredDeviations_cons (zero : ℚ) (v : BitVec 10) (vs : List (BitVec 10)) :
    squaredDeviations zero (v :: vs) = squaredDeviations zero [v] + squaredDeviations zero vs := by
  simp [squaredDeviations]

/-- The registers after a run of samples of the quantity. -/
def VamRegs.collectSamples (r : VamRegs) (q : Quantity) (low : Byte) (vs : List (BitVec 10)) : VamRegs :=
  (r.setNeg q (r.negOf q + belowCount (r.zeroOf q) vs)).collect low (squaredDeviations (r.zeroOf q) vs) vs.length

@[simp] theorem collectSamples_count (r : VamRegs) (q : Quantity) (low : Byte) (vs : List (BitVec 10)) :
    (r.collectSamples q low vs).count = r.count + vs.length := by cases q <;> rfl
@[simp] theorem collectSamples_sum (r : VamRegs) (q : Quantity) (low : Byte) (vs : List (BitVec 10)) :
    (r.collectSamples q low vs).sum = r.sum + squaredDeviations (r.zeroOf q) vs := by cases q <;> rfl
@[simp] theorem collectSamples_negOf (r : VamRegs) (q : Quantity) (low : Byte) (vs : List (BitVec 10)) :
    (r.collectSamples q low vs).negOf q = r.negOf q + belowCount (r.zeroOf q) vs := by cases q <;> rfl
@[simp] theorem collectSamples_zeroOf (r : VamRegs) (q : Quantity) (low : Byte) (vs : List (BitVec 10)) :
    (r.collectSamples q low vs).zeroOf q = r.zeroOf q := by cases q <;> rfl
@[simp] theorem collectSamples_gainOf (r : VamRegs) (q : Quantity) (low : Byte) (vs : List (BitVec 10)) :
    (r.collectSamples q low vs).gainOf q = r.gainOf q := by cases q <;> rfl
@[simp] theorem collectSamples_scaleOf (r : VamRegs) (q : Quantity) (low : Byte) (vs : List (BitVec 10)) :
    (r.collectSamples q low vs).scaleOf q = r.scaleOf q := by cases q <;> rfl
@[simp] theorem collectSamples_calOf (r : VamRegs) (q : Quantity) (low : Byte) (vs : List (BitVec 10)) :
    (r.collectSamples q low vs).calOf q = r.calOf q := by cases q <;> rfl

theorem collectSamples_collectSamples (r : VamRegs) (q : Quantity) (low low' : Byte) (v : BitVec 10)
    (vs : List (BitVec 10)) :
    (r.collectSamples q low [v]).collectSamples q low' vs = r.collectSamples q low' (v :: vs) := by
  simp only [VamRegs.collectSamples, collect_setNeg, collect_collect, setNeg_setNeg, collect_negOf, collect_zeroOf,
    negOf_setNeg, setNeg_zeroOf, belowCount_cons _ v vs, squaredDeviations_cons _ v vs, List.length_cons,
    List.length_nil, Nat.add_assoc, Nat.add_comm 1, Nat.zero_add]

/-- What `VAM.SMPHI` leaves after `VAM.SMPLO`, for the two bytes of a value (44_vameter_decoder R242). -/
theorem execVamSmphi_value (q : Quantity) (v : BitVec 10) (s : State) :
    execVamSmphi q (highByte v) (latchLow (lowByte v) s) =
      .next (s.setVam (s.vam.collectSamples q (lowByte v) [v])) := by
  have hdev : deviation q (highByte v) (latchLow (lowByte v) s) = v.toNat - s.vam.zeroOf q := by
    rw [deviation, completedRaw_latchLow]
    cases q <;> rfl
  have hneg : countNegative q (highByte v) (latchLow (lowByte v) s) =
      s.vam.negOf q + belowCount (s.vam.zeroOf q) [v] := by
    have kept : (latchLow (lowByte v) s).vam.negOf q = s.vam.negOf q := by cases q <;> rfl
    rw [countNegative, hdev, belowCount_singleton, kept]
    by_cases below : (v.toNat : ℚ) < s.vam.zeroOf q <;> simp [isNegative, below]
  rw [execVamSmphi, hdev, hneg, ← pow_two]
  have hsum : squaredDeviations (s.vam.zeroOf q) [v] = ((v.toNat : ℚ) - s.vam.zeroOf q) ^ 2 := by
    simp [squaredDeviations]
  rw [← hsum]
  cases q <;> rfl

/-- One value of a sample run adds its squared deviation (44_vameter_decoder R241, R242). -/
theorem feed_sample_value {q : Quantity} {s : State} (hcmd : s.vam.cmd = sampleCmd q) (hlatch : s.vam.latchFull = false)
    (v : BitVec 10) (bs : List Byte) :
    feed .vam (lowByte v :: highByte v :: bs) s =
      feed .vam bs (s.setVam (s.vam.collectSamples q (lowByte v) [v])) := by
  have hmem : s.vam.cmd ∈ [VamCmd.vSample, .iSample] := hcmd ▸ mem_sample q
  have hlow := feed_cons_of_exec (i := .vamSmplo (lowByte v)) (s := s) rfl rfl ⟨hmem, hlatch⟩
    (lowByte_msb v) (highByte v :: bs)
  have hhigh := feed_cons_of_exec (i := .vamSmphi q (highByte v)) (execVamSmphi_value q v s) rfl
    (sampleHigh_selected (s := latchLow (lowByte v) s) hcmd rfl _) (highByte_msb v) bs
  exact hlow.trans hhigh

theorem collectSamples_cmd (r : VamRegs) (q : Quantity) (low : Byte) (vs : List (BitVec 10)) :
    (r.collectSamples q low vs).cmd = r.cmd :=
  setNeg_cmd r q _

theorem collectSamples_nil {r : VamRegs} (q : Quantity) (h : r.latchFull = false) :
    r.collectSamples q r.sampleLow [] = r :=
  (congrArg (fun r' : VamRegs => r'.collect r.sampleLow 0 0) (setNeg_self r q)).trans (collect_nothing h)

/-- A sample run adds up the squared deviations of its values and counts the values and the negative deviations. -/
theorem feed_sample_run (q : Quantity) (vs : List (BitVec 10)) (s : State) (hcmd : s.vam.cmd = sampleCmd q)
    (hlatch : s.vam.latchFull = false) :
    ∃ low, feed .vam (runBytes vs) s = .next (s.setVam (s.vam.collectSamples q low vs)) := by
  induction vs generalizing s with
  | nil => exact ⟨s.vam.sampleLow, by rw [collectSamples_nil q hlatch]; rfl⟩
  | cons v vs ih =>
    obtain ⟨low, hfeed⟩ := ih (s.setVam (s.vam.collectSamples q (lowByte v) [v]))
      ((collectSamples_cmd s.vam q _ _).trans hcmd) rfl
    rw [setVam_vam, collectSamples_collectSamples] at hfeed
    exact ⟨low, by rw [runBytes_cons, feed_sample_value hcmd hlatch, hfeed]; rfl⟩

theorem finalise_sample {q : Quantity} {s : State} (hcmd : s.vam.cmd = sampleCmd q) :
    finalise s = finaliseSample q s := by
  cases q <;> rw [finalise, hcmd] <;> rfl

/-- A closed run with its references apart is reported as a sample (44_vameter_decoder R244 to R246). -/
theorem reportSample_of_run {q : Quantity} {s : State} (run : 0 < s.vam.count)
    (apart : s.vam.gainOf q ≠ s.vam.zeroOf q) :
    reportSample q s = s.emitVam (sampleEvent q (polarity (s.vam.negOf q) s.vam.count) (numMagnitude
      { radicand := s.vam.sum / s.vam.count * ((s.vam.calOf q).val / 1000) ^ 2 / (s.vam.gainOf q - s.vam.zeroOf q) ^ 2
        scale := s.vam.scaleOf q })) := by
  rw [reportSample, if_pos run, vamMagnitude, if_neg apart]

/-- A run under the sample command of the quantity into which no value has come yet. -/
structure FreshSampleRun (r : VamRegs) (q : Quantity) : Prop where
  cmd : r.cmd = sampleCmd q
  latch : r.latchFull = false
  sum : r.sum = 0
  count : r.count = 0
  neg : r.negOf q = 0

/-- The value that a run of samples is reported with: the mean squared deviation, scaled under the root
(44_vameter_decoder R246, R250). -/
def runValue (r : VamRegs) (q : Quantity) (vs : List (BitVec 10)) : SampleValue :=
  { radicand :=
      squaredDeviations (r.zeroOf q) vs / vs.length * ((r.calOf q).val / 1000) ^ 2 / (r.gainOf q - r.zeroOf q) ^ 2
    scale := r.scaleOf q }

/-- Closing a run of samples reports them and clears the negative counter of the quantity. -/
theorem finalise_sample_run {s : State} {q : Quantity} {vs : List (BitVec 10)} (fresh : FreshSampleRun s.vam q)
    (low : Byte) (hne : vs ≠ []) (apart : s.vam.gainOf q ≠ s.vam.zeroOf q) :
    finalise (s.setVam (s.vam.collectSamples q low vs)) =
      { s with
        vam := (s.vam.collectSamples q low vs).setNeg q 0
        vamOut := s.vamOut ++
          [.ev (sampleEvent q (polarity (belowCount (s.vam.zeroOf q) vs) vs.length)
            (numMagnitude (runValue s.vam q vs)))] } := by
  obtain ⟨hcmd, -, hsum, hcount, hneg⟩ := fresh
  have hcmd' : (s.setVam (s.vam.collectSamples q low vs)).vam.cmd = sampleCmd q :=
    (collectSamples_cmd s.vam q low vs).trans hcmd
  have run : 0 < (s.setVam (s.vam.collectSamples q low vs)).vam.count := by
    rw [setVam_vam, collectSamples_count, hcount, Nat.zero_add]
    exact List.length_pos_iff.2 hne
  have apart' : (s.setVam (s.vam.collectSamples q low vs)).vam.gainOf q ≠
      (s.setVam (s.vam.collectSamples q low vs)).vam.zeroOf q := by simpa using apart
  rw [finalise_sample hcmd', finaliseSample, reportSample_of_run run apart']
  simp [hsum, hcount, hneg, runValue, State.setVam, State.emitVam]

/-- Nothing but the latched byte is left of a closed run of samples. -/
theorem clear_collectSamples {r : VamRegs} {q : Quantity} (fresh : FreshSampleRun r q) (low : Byte)
    (vs : List (BitVec 10)) (cmd : VamCmd) :
    { (r.collectSamples q low vs).setNeg q 0 with sum := 0, count := 0, latchFull := false, cmd := cmd } =
      { r with sampleLow := low, cmd := cmd } := by
  obtain ⟨-, hlatch, hsum, hcount, hneg⟩ := fresh
  have back : (r.collectSamples q low vs).setNeg q 0 =
      r.collect low (squaredDeviations (r.zeroOf q) vs) vs.length := by
    rw [VamRegs.collectSamples, collect_setNeg, setNeg_setNeg, ← hneg, setNeg_self]
  rw [back, ← hlatch, ← hsum, ← hcount]
  rfl

/-- The rational under the root stands for the printed formula of 44_vameter_decoder R246, R250. -/
theorem sqrt_radicand (meanSquare gain zero : ℚ) (m : CalFactor) (scale : ℝ) :
    Real.sqrt ((meanSquare * ((m.val : ℚ) / 1000) ^ 2 / (gain - zero) ^ 2 : ℚ) : ℝ) * scale =
      Real.sqrt (meanSquare : ℝ) * scale / |(gain : ℝ) - zero| * ((m.val : ℝ) / 1000) := by
  have factor : (0 : ℝ) ≤ (m.val : ℝ) / 1000 := by positivity
  push_cast
  rw [Real.sqrt_div' _ (sq_nonneg _), Real.sqrt_mul' _ (sq_nonneg _), Real.sqrt_sq factor, Real.sqrt_sq_eq_abs]
  ring

theorem squaredDeviations_cast (zero : ℚ) (vs : List (BitVec 10)) :
    (squaredDeviations zero vs : ℝ) = (vs.map fun v => ((v.toNat : ℝ) - zero) ^ 2).sum := by
  simp [squaredDeviations, Rat.cast_list_sum, Function.comp_def]

/-- The real number a run of samples is reported with. -/
theorem sampleReal_runValue (r : VamRegs) (q : Quantity) (vs : List (BitVec 10)) :
    sampleReal (runValue r q vs) =
      Real.sqrt ((vs.map fun v => ((v.toNat : ℝ) - r.zeroOf q) ^ 2).sum / vs.length) * scaleReal (r.scaleOf q) /
        |(r.gainOf q : ℝ) - r.zeroOf q| * (((r.calOf q).val : ℝ) / 1000) := by
  have formula := sqrt_radicand (squaredDeviations (r.zeroOf q) vs / vs.length) (r.gainOf q) (r.zeroOf q) (r.calOf q)
    (scaleReal (r.scaleOf q))
  rwa [Rat.cast_div (squaredDeviations _ _), squaredDeviations_cast, Rat.cast_natCast] at formula

end Sys2Proof.Machine
end

section
/-! The obligations about closed runs (44_vameter_decoder). -/

namespace Sys2Proof.Machine

/-- Settles O59: the run adds up its values, the control byte stores their mean under the command of the run. -/
theorem referenceRunStoresMean : Obligations.ReferenceRunStoresMean := by
  unfold Obligations.ReferenceRunStoresMean
  intro s vs b mean hne hb hlatch hsum hcount hmean href
  obtain ⟨low, hrun⟩ := feed_reference_run vs s href hlatch
  have nonempty : 0 < vs.length := List.length_pos_iff.2 hne
  have closed (old : ℚ) :
      referenceMean (s.vam.collect low (vs.map fun v => (v.toNat : ℚ)).sum vs.length) old = mean := by
    simp [referenceMean, VamRegs.collect, hsum, hcount, nonempty, hmean]
  have hfeed := (feed_append hrun [b]).trans (feed_control hb _)
  rw [finalise_reference (s := s.setVam (s.vam.collect low _ _)) href] at hfeed
  simp only [setVam_vam, closed] at hfeed
  exact ⟨_, hfeed, rfl, rfl, rfl, rfl, rfl, rfl, rfl, rfl, rfl, rfl, rfl, rfl, rfl, rfl, rfl, rfl, rfl, rfl⟩

/-- Settles O60: the run adds up squared deviations and counts negative ones, the control byte reports them and puts the
registers of the run back to where they were. -/
theorem sampleRunEmitsSample : Obligations.SampleRunEmitsSample := by
  unfold Obligations.SampleRunEmitsSample
  intro s q vs b neg zero gain scale m p hvoltage hcurrent hne hb hlatch hsum hcount happart hneg hp
  obtain ⟨hcmd, hneg0, rfl, rfl, rfl, rfl⟩ : s.vam.cmd = sampleCmd q ∧ s.vam.negOf q = 0 ∧ zero = s.vam.zeroOf q ∧
      gain = s.vam.gainOf q ∧ scale = scaleReal (s.vam.scaleOf q) ∧ m = s.vam.calOf q := by
    cases q with
    | voltage => exact hvoltage rfl
    | current => exact hcurrent rfl
  have fresh : FreshSampleRun s.vam q := ⟨hcmd, hlatch, hsum, hcount, hneg0⟩
  obtain ⟨low, hrun⟩ := feed_sample_run q vs s hcmd hlatch
  have hfeed := (feed_append hrun [b]).trans (feed_control hb _)
  rw [finalise_sample_run fresh low hne happart, clear_collectSamples fresh] at hfeed
  have hpolarity : polarity (belowCount (s.vam.zeroOf q) vs) vs.length = p := by rw [hp, hneg]; rfl
  rw [hpolarity] at hfeed
  exact ⟨low, _, hfeed, fun F => congrArg F.num (sampleReal_runValue s.vam q vs)⟩

end Sys2Proof.Machine
end

section
/-! The counter's invariant stage by stage, and its accumulator under one nibble (40_counter_decoder R146, R151). -/

namespace Sys2Proof.Machine

theorem cntInv_awaitSentinel {r : CntRegs} (h : r.stage = .awaitSentinel) : CntInv r ↔ r.acc = 0#24 := by
  rw [CntInv, h]

theorem cntInv_awaitRange {r : CntRegs} (h : r.stage = .awaitRange) : CntInv r ↔ r.acc = 0#24 := by
  rw [CntInv, h]

theorem cntInv_collectingNibble {r : CntRegs} {n : Fin 6} (h : r.stage = .collectingNibble n) :
    CntInv r ↔ r.acc.toNat < 16 ^ n.val ∧ r.rangeValid = true := by
  rw [CntInv, h]

/-- A nibble at its place is the number that R146 prints. -/
theorem nibbleAt_eq_ofNat {n : Nat} (hn : n ≤ 5) (b : Byte) :
    nibbleAt n b = BitVec.ofNat 24 (b.toNat % 16 * 2 ^ (4 * n)) := by
  have place : (16 : Nat) ^ n = 2 ^ (4 * n) := by rw [pow_mul]; norm_num
  rw [← place, ← nibbleAt_toNat n hn b, BitVec.ofNat_toNat, BitVec.setWidth_eq]

/-- Or-ing the nibble into its place keeps the accumulator below the next place (40_counter_decoder R151 (b)). -/
theorem acc_or_nibble_lt {acc : BitVec 24} {n : Nat} (hn : n ≤ 5) (b : Byte) (h : acc.toNat < 16 ^ n) :
    (acc ||| nibbleAt n b).toNat < 16 ^ (n + 1) := by
  have digit : b.toNat % 16 < 16 := Nat.mod_lt _ (by norm_num)
  rw [acc_or_nibble acc n hn b h, pow_succ]
  nlinarith

end Sys2Proof.Machine
end

section
/-! The obligations about the counter's receive operations (40_counter_decoder R140 to R150). The decoder's part of each
is the law of `Laws.Selection` for the context that selects the operation. -/

namespace Sys2Proof.Machine

/-- Settles O3: each context selects its operation. -/
theorem counterDispatch : Obligations.CounterDispatch := by
  unfold Obligations.CounterDispatch
  intro q b
  refine ⟨?sentinel, ?lost, ?range, ?nibble, ?last⟩
  case sentinel =>
    rintro stage rfl
    exact Laws.Selection.cntSent q stage rfl
  case lost => exact fun stage other => Laws.Selection.cntLost b q stage (bne_iff_ne.2 other)
  case range => exact fun stage => Laws.Selection.cntRange b q stage rfl
  case nibble => exact fun n stage => Laws.Selection.cntNib n b q stage rfl
  case last => exact fun stage => Laws.Selection.cntNib5 b q stage rfl

/-- Settles O7: `CNT.SENT` writes the stage alone, and in the stage it sets any byte is the range byte. -/
theorem cntSentinelOpensFrame : Obligations.CntSentinelOpensFrame := by
  unfold Obligations.CntSentinelOpensFrame
  intro s
  exact ⟨fun stage => Laws.Selection.cntSent s.seq stage rfl, rfl, fun inv stage => (cntInv_awaitSentinel stage).1 inv,
    fun stage => Laws.Selection.cntRange 0xC9#8 s.seq stage rfl⟩

/-- Settles O8: the error is appended and the value dropped, by the definition of the operation. -/
theorem cntLostReportsByte : Obligations.CntLostReportsByte := by
  unfold Obligations.CntLostReportsByte
  exact fun s b => ⟨fun stage other => Laws.Selection.cntLost b s.seq stage (bne_iff_ne.2 other), rfl, rfl⟩

/-- Settles O9: `execCntRange_eq`. -/
theorem cntRangeStoresAndReportsChange : Obligations.CntRangeStoresAndReportsChange := by
  unfold Obligations.CntRangeStoresAndReportsChange
  exact fun s b => ⟨fun stage => Laws.Selection.cntRange b s.seq stage rfl, execCntRange_eq b s⟩

/-- Settles O10: the or is an addition where the accumulator is below the nibble's place. -/
theorem cntNibbleAccumulates : Obligations.CntNibbleAccumulates := by
  unfold Obligations.CntNibbleAccumulates
  intro s n b
  have place : n.val ≤ 5 := by omega
  refine ⟨fun stage => Laws.Selection.cntNib n b s.seq stage rfl, s.cnt.acc ||| nibbleAt n.val b, rfl, ?printed, ?added⟩
  case printed => rw [nibbleAt_eq_ofNat place]
  case added => exact acc_or_nibble s.cnt.acc n.val place b

/-- Settles O11: `reportCounterValue_counterHertz` on the completed value. -/
theorem cntSixthNibbleConverts : Obligations.CntSixthNibbleConverts := by
  unfold Obligations.CntSixthNibbleConverts
  rintro s b val completed
  refine ⟨fun stage => Laws.Selection.cntNib5 b s.seq stage rfl, ?converts, rfl⟩
  have value : s.cnt.acc ||| nibbleAt 5 b = val := by rw [completed, nibbleAt_eq_ofNat le_rfl]
  show execCntNib5 b s = _
  rw [execCntNib5, value, reportCounterValue_counterHertz]
  rfl

end Sys2Proof.Machine
end

section
/-! Every operation keeps its unit's invariant where it is selected (40_counter_decoder R151, 42_generator_decoder R184,
44_vameter_decoder R251). -/

namespace Sys2Proof.Machine

variable {i : Instr} {s t : State}

/-! ### Counter -/

/-- An operation of the counter keeps the counter's invariant where it is selected. -/
theorem exec_keeps_cntInv (hu : i.unit = .cnt) (hctx : s.seq.selects i) (h : exec i s = .next t) (inv : CntInv s.cnt) :
    CntInv t.cnt := by
  cases i with
  | cntSent =>
    cases h
    exact (cntInv_awaitRange rfl).2 ((cntInv_awaitSentinel hctx).1 inv)
  | cntLost b =>
    cases h
    exact (cntInv_awaitSentinel rfl).2 rfl
  | cntRange b =>
    have cleared : s.cnt.acc = 0#24 := (cntInv_awaitRange hctx).1 inv
    cases (execCntRange_eq b s).symm.trans h
    exact (cntInv_collectingNibble rfl).2 ⟨by simp [cleared], rfl⟩
  | cntNib n b =>
    obtain ⟨below, valid⟩ := (cntInv_collectingNibble hctx).1 inv
    cases h
    exact (cntInv_collectingNibble (n := n.succ) rfl).2 ⟨acc_or_nibble_lt (by omega) b below, valid⟩
  | cntNib5 b =>
    cases h
    exact (cntInv_awaitSentinel rfl).2 rfl
  | cntSetMode m =>
    simp only [exec, execCntSetMode] at h
    split at h <;> cases h <;> exact inv
  | cntSetTrigger level => cases h; exact inv
  | reset u =>
    obtain rfl : u = .cnt := hu
    cases h
    exact cntInv_reset _
  | _ => cases hu

/-! ### Generator -/

/-- The sentinel at index 0 of the buffer stays when a byte is stored at a later index. -/
theorem getElem_zero_memWrite (buf : Vector Byte 10) {k : Nat} (hk : k < 10) (h : 1 ≤ k) (b : Byte) :
    (memWrite buf ⟨k, hk⟩ b)[0] = buf[0] :=
  memRead_memWrite_other buf ⟨k, hk⟩ 0 b (Fin.ne_of_gt h)

/-- Outside a packet the generator's invariant asks for an empty buffer only. -/
theorem genInv_idle {r : GenRegs} (hawait : r.awaiting = false) (hlen : r.rxlen = 0#4) : GenInv r := by
  simp [GenInv, hawait, hlen]

/-- Inside a packet it asks for an index the packet can have and for the sentinel at index 0. -/
theorem genInv_packet {r : GenRegs} (hawait : r.awaiting = true) (first : 1 ≤ r.rxlen.toNat) (last : r.rxlen.toNat ≤ 9)
    (sentinel : r.rxbuf[0] = 0xD2#8) : GenInv r :=
  ⟨last, iff_of_true hawait first, fun _ => sentinel⟩

/-- An operation of the generator keeps the generator's invariant where it is selected. -/
theorem exec_keeps_genInv (hu : i.unit = .gen) (hctx : s.seq.selects i) (h : exec i s = .next t) (inv : GenInv s.gen) :
    GenInv t.gen := by
  cases i with
  | genMemld | genAck | genLost | genSave | genLoad | genSetFilter | genSetAmplitude | genSetOffset | genSetFrequency
  | genRequestState => cases h; exact inv
  | genSetWave wave =>
    simp only [exec, execGenSetWave] at h
    split at h <;> cases h <;> exact inv
  | genSetFreqHz hz wave =>
    simp only [exec, execGenSetFreqHz] at h
    split at h <;> cases h <;> exact inv
  | genPkt =>
    cases h
    exact genInv_packet rfl (by simp) (by simp) (memRead_memWrite_same s.gen.rxbuf 0 Config.genSentinel)
  | genData b =>
    obtain ⟨inPacket, first, last⟩ : s.gen.awaiting = true ∧ 1 ≤ s.gen.rxlen.toNat ∧ s.gen.rxlen.toNat ≤ 8 := hctx
    obtain ⟨-, -, sentinel⟩ := inv
    have next : (s.gen.rxlen + 1#4).toNat = s.gen.rxlen.toNat + 1 := by
      rw [BitVec.toNat_add, BitVec.toNat_ofNat]
      omega
    have room : s.gen.rxlen.toNat < 10 := by omega
    cases (execGenData_of_lt s b room).symm.trans h
    refine genInv_packet inPacket ?_ ?_ ((getElem_zero_memWrite _ room first b).trans (sentinel first))
    · exact next ▸ Nat.le_add_left 1 _
    · exact next ▸ Nat.succ_le_succ last
  | genLast b =>
    cases h
    exact genInv_idle rfl rfl
  | reset u =>
    obtain rfl : u = .gen := hu
    cases h
    exact genInv_reset _
  | _ => cases hu

/-! ### VAmeter -/

/-- A completed value is one of `0 .. 1023`. -/
theorem completedRaw_inRawRange (b : Byte) (s : State) : inRawRange (completedRaw b s) := by
  have bound : (raw10 b s.vam.sampleLow).toNat ≤ 1023 := Nat.le_of_lt_succ (raw10 b s.vam.sampleLow).isLt
  exact ⟨Nat.cast_nonneg _, by rw [completedRaw]; exact_mod_cast bound⟩

/-- The mean of a reference run lies in the range of its values (44_vameter_decoder R251 (d)). -/
theorem referenceMean_inRawRange {r : VamRegs} {old : ℚ} (inv : VamInv r) (href : isReferenceCmd r.cmd = true)
    (hold : inRawRange old) : inRawRange (referenceMean r old) := by
  unfold referenceMean
  split
  case isTrue run =>
    have positive : (0 : ℚ) < r.count := Nat.cast_pos.2 run
    exact ⟨div_nonneg inv.sum positive.le, (div_le_iff₀ positive).2 (inv.refSum href)⟩
  case isFalse => exact hold

/-- What a closed run leaves for the next command: no negative sample counted, every reference in range. -/
structure RunClosed (r : VamRegs) : Prop where
  vNeg : r.vNeg = 0
  iNeg : r.iNeg = 0
  vZero : inRawRange r.vZero
  vGain : inRawRange r.vGain
  iZero : inRawRange r.iZero
  iGain : inRawRange r.iGain

/-- Finalisation closes the run of every command. -/
theorem finalise_runClosed (inv : VamInv s.vam) : RunClosed (finalise s).vam := by
  obtain ⟨evs, r, hfinal, hr⟩ := finalise_cases s
  rw [hfinal]
  show RunClosed r
  have mean {old : ℚ} (href : isReferenceCmd s.vam.cmd = true) (hold : inRawRange old) :
      inRawRange (referenceMean s.vam old) := referenceMean_inRawRange inv href hold
  have kept (hv : s.vam.cmd ≠ .vSample) (hi : s.vam.cmd ≠ .iSample) : RunClosed s.vam :=
    ⟨inv.vNegZero hv, inv.iNegZero hi, inv.vZero, inv.vGain, inv.iZero, inv.iGain⟩
  obtain ⟨hcmd, -, rfl⟩ | ⟨hcmd, -, rfl⟩ | ⟨hcmd, -, rfl⟩ | ⟨hcmd, -, rfl⟩ | ⟨hcmd, -, rfl⟩ | ⟨hcmd, -, rfl⟩ |
    ⟨hcmd, -, rfl⟩ := hr
  · exact kept (fun e => by simp [e] at hcmd) (fun e => by simp [e] at hcmd)
  · exact { kept (by simp [hcmd]) (by simp [hcmd]) with vZero := mean (by rw [hcmd]; rfl) inv.vZero }
  · exact { kept (by simp [hcmd]) (by simp [hcmd]) with vGain := mean (by rw [hcmd]; rfl) inv.vGain }
  · exact { kept (by simp [hcmd]) (by simp [hcmd]) with iZero := mean (by rw [hcmd]; rfl) inv.iZero }
  · exact { kept (by simp [hcmd]) (by simp [hcmd]) with iGain := mean (by rw [hcmd]; rfl) inv.iGain }
  · exact ⟨rfl, inv.iNegZero (by simp [hcmd]), inv.vZero, inv.vGain, inv.iZero, inv.iGain⟩
  · exact ⟨inv.vNegZero (by simp [hcmd]), rfl, inv.vZero, inv.vGain, inv.iZero, inv.iGain⟩

/-- With the run registers cleared, a closed run meets the invariant under any command. -/
theorem RunClosed.vamInv {r : VamRegs} (closed : RunClosed r) (cmd : VamCmd) :
    VamInv { r with sum := 0, count := 0, latchFull := false, cmd := cmd } where
  latch := nofun
  idle _ _ := ⟨rfl, rfl⟩
  vNegBound _ := closed.vNeg.le
  iNegBound _ := closed.iNeg.le
  vNegZero _ := closed.vNeg
  iNegZero _ := closed.iNeg
  vZero := closed.vZero
  vGain := closed.vGain
  iZero := closed.iZero
  iGain := closed.iGain
  sum := le_rfl
  refSum _ := by simp

/-- The first byte of a value is latched under a reference or a sample command only. -/
theorem vamInv_latchLow (inv : VamInv s.vam) (b : Byte)
    (hcmd : isReferenceCmd s.vam.cmd = true ∨ isSampleCmd s.vam.cmd = true) : VamInv (latchLow b s).vam :=
  { inv with latch := fun _ => hcmd }

/-- A sample is counted as negative at most once. -/
theorem countNegative_le (q : Quantity) (b : Byte) (s : State) : countNegative q b s ≤ s.vam.negOf q + 1 := by
  unfold countNegative
  split <;> omega

/-- A value that completes under a reference or a sample command is added to the run: it is not negative, and under a
reference command it is one of `0 .. 1023` (44_vameter_decoder R240, R242). -/
theorem VamInv.collect {r : VamRegs} (inv : VamInv r) (low : Byte) {x : ℚ} (nonneg : 0 ≤ x)
    (run : isReferenceCmd r.cmd = true ∨ isSampleCmd r.cmd = true) (small : isReferenceCmd r.cmd = true → x ≤ 1023) :
    VamInv (r.collect low x 1) :=
  { inv with
    latch := nofun
    idle := fun noRef noSample =>
      absurd run (not_or.2 ⟨ne_true_of_eq_false noRef, ne_true_of_eq_false noSample⟩)
    vNegBound := fun e => Nat.le_succ_of_le (inv.vNegBound e)
    iNegBound := fun e => Nat.le_succ_of_le (inv.iNegBound e)
    sum := add_nonneg inv.sum nonneg
    refSum := fun href => by
      have bound := add_le_add (inv.refSum href) (small href)
      simp only [VamRegs.collect]
      push_cast
      linarith }

/-- Under the sample command of a quantity no more samples are negative than were counted. -/
theorem VamInv.negOf_le_count {r : VamRegs} (inv : VamInv r) {q : Quantity} (hcmd : r.cmd = sampleCmd q) :
    r.negOf q ≤ r.count := by
  cases q with
  | voltage => exact inv.vNegBound hcmd
  | current => exact inv.iNegBound hcmd

/-- Under the sample command of a quantity its negative counter may be anything up to the count. -/
theorem VamInv.setNeg {r : VamRegs} (inv : VamInv r) {q : Quantity} {n : Nat} (hcmd : r.cmd = sampleCmd q)
    (bound : n ≤ r.count) : VamInv (r.setNeg q n) := by
  cases q with
  | voltage => exact { inv with vNegBound := fun _ => bound, vNegZero := fun other => absurd hcmd other }
  | current => exact { inv with iNegBound := fun _ => bound, iNegZero := fun other => absurd hcmd other }

/-- What the second byte of a sample writes: the run registers, and the negative counter of its quantity. -/
theorem execVamSmphi_eq_collect (q : Quantity) (b : Byte) (s : State) :
    execVamSmphi q b s =
      .next
        (s.setVam
          ((s.vam.collect s.vam.sampleLow (deviation q b s * deviation q b s) 1).setNeg q (countNegative q b s))) := by
  cases q <;> rfl

theorem isSampleCmd_sampleCmd (q : Quantity) : isSampleCmd (sampleCmd q) = true := by cases q <;> rfl

theorem isReferenceCmd_sampleCmd (q : Quantity) : isReferenceCmd (sampleCmd q) = false := by cases q <;> rfl

theorem isReferenceCmd_of_mem {cmd : VamCmd} (h : cmd ∈ [VamCmd.vZero, .vGain, .iZero, .iGain]) :
    isReferenceCmd cmd = true := by
  cases cmd <;> simp [isReferenceCmd] at h ⊢

theorem isSampleCmd_of_mem {cmd : VamCmd} (h : cmd ∈ [VamCmd.vSample, .iSample]) : isSampleCmd cmd = true := by
  cases cmd <;> simp [isSampleCmd] at h ⊢

/-- An operation of the VAmeter keeps the VAmeter's invariant where it is selected. -/
theorem exec_keeps_vamInv (hu : i.unit = .vam) (hctx : s.seq.selects i) (h : exec i s = .next t) (inv : VamInv s.vam) :
    VamInv t.vam := by
  cases i with
  | vamCtrl b =>
    have ctrl : exec (.vamCtrl b) s = .next (selectCommand b (clearRun (finalise s))) := rfl
    rw [ctrl, selectCommand_clearRun] at h
    cases h
    exact (finalise_runClosed inv).vamInv _
  | vamVrange b =>
    simp only [exec, execVamVrange] at h
    split at h
    next => cases h; exact { inv with }
    next => cases h; exact inv
  | vamIrange hw b =>
    simp only [exec, execVamIrange] at h
    split at h
    next => cases h; exact { inv with }
    next => cases h; exact inv
  | vamReflo b =>
    cases h
    exact vamInv_latchLow inv b (.inl (isReferenceCmd_of_mem hctx.1))
  | vamRefhi b =>
    have href : isReferenceCmd s.vam.cmd = true := isReferenceCmd_of_mem hctx.1
    obtain ⟨nonneg, small⟩ := completedRaw_inRawRange b s
    cases h
    exact inv.collect s.vam.sampleLow nonneg (.inl href) fun _ => small
  | vamSmplo b =>
    cases h
    exact vamInv_latchLow inv b (.inr (isSampleCmd_of_mem hctx.1))
  | vamSmphi q b =>
    have hcmd : s.vam.cmd = sampleCmd q := by cases q <;> exact hctx.1
    have run : isSampleCmd s.vam.cmd = true := hcmd ▸ isSampleCmd_sampleCmd q
    have noRef : isReferenceCmd s.vam.cmd = false := hcmd ▸ isReferenceCmd_sampleCmd q
    have counted : countNegative q b s ≤ s.vam.count + 1 :=
      (countNegative_le q b s).trans (Nat.succ_le_succ (inv.negOf_le_count hcmd))
    cases (execVamSmphi_eq_collect q b s).symm.trans h
    have summed := inv.collect s.vam.sampleLow (mul_self_nonneg (deviation q b s)) (.inr run)
      fun href => absurd href (ne_true_of_eq_false noRef)
    exact summed.setNeg hcmd counted
  | vamStray b => cases h; exact inv
  | vamCalLoad src =>
    simp only [exec, execVamCalLoad] at h
    split at h
    next => cases h; exact inv
    next => split at h <;> cases h <;> exact { inv with }
  | vamCalUnload => cases h; exact { inv with }
  | reset u =>
    obtain rfl : u = .vam := hu
    cases h
    exact vamInv_reset _
  | _ => cases hu

end Sys2Proof.Machine
end

section
/-! The obligation about the invariants of the three units: the operation a strobe selects has the sequencing state as
its context, keeps the invariant of its own unit, and leaves the other units alone. -/

namespace Sys2Proof.Machine

variable {s t : State}

/-- Under the generator's invariant whatever a strobe selects has the sequencing state as its context. -/
theorem selects_decode (inv : GenInv s.gen) (x : Input) : s.seq.selects (decode s.seq x) := by
  cases x with
  | rx u b =>
    obtain ⟨last, inPacket, -⟩ := inv
    exact selects_decodeRx u b fun hawait => ⟨inPacket.1 hawait, last⟩
  | cmd c => cases c <;> trivial

/-- An operation keeps the invariants of the three units where it is selected. -/
theorem exec_keeps_inv {i : Instr} (hctx : s.seq.selects i) (h : exec i s = .next t) (inv : Inv s) : Inv t := by
  cases hu : i.unit with
  | cnt =>
    have own := exec_keeps_cntInv hu hctx h inv.cnt
    obtain ⟨r, out, k, rfl⟩ := exec_cnt_frame hu h
    exact ⟨own, inv.gen, inv.vam⟩
  | gen =>
    have own := exec_keeps_genInv hu hctx h inv.gen
    obtain ⟨⟨r, out, k, rfl⟩, -⟩ := exec_gen_frame hu h
    exact ⟨inv.cnt, own, inv.vam⟩
  | vam =>
    have own := exec_keeps_vamInv hu hctx h inv.vam
    obtain ⟨⟨r, out, k, rfl⟩, -⟩ := exec_vam_frame hu h
    exact ⟨inv.cnt, inv.gen, own⟩

/-- Settles O54: a step executes what its strobe selects, and `exec_keeps_inv`. -/
theorem stepKeepsInvariants : Obligations.StepKeepsInvariants := by
  unfold Obligations.StepKeepsInvariants
  intro s t inv h
  cases hin : s.inputs with
  | nil =>
    rw [step_nil s hin] at h
    cases h
    exact inv
  | cons x rest =>
    have waiting : Inv (s.setInputs rest) := ⟨inv.cnt, inv.gen, inv.vam⟩
    rw [step_cons s x rest hin] at h
    exact exec_keeps_inv (selects_decode waiting.gen x) h waiting

end Sys2Proof.Machine
end

section
/-! The obligation about the counter's two commands (41_counter_encoder R160, R161). -/

namespace Sys2Proof.Machine

/-- Sending and then returning appends to the counter's outputs, in this order, and changes nothing else. -/
theorem sendCnt_retCnt (s : State) (bytes : List Byte) (st : Status) :
    (s.sendCnt bytes).retCnt st = { s with cntOut := s.cntOut ++ (bytes.map .tx ++ [.ret st]) } := by
  simp [State.sendCnt, State.retCnt]

/-- The clamp's three ranges, with the byte of each (41_counter_encoder R161). -/
theorem triggerByte_eq_ite (level : BitVec 32) :
    triggerByte level =
      if level.toInt ≤ -31 then 0x81#8 else if 31 ≤ level.toInt then 0xBF#8
      else BitVec.ofInt 8 (0xA0 + level.toInt) := by
  rw [triggerByte_eq_encodeTrigger, encodeTrigger]
  split_ifs with low high
  · have clamped : max (-31) (min 31 level.toInt) = -31 := by omega
    rw [clamped]
    rfl
  · have clamped : max (-31) (min 31 level.toInt) = 31 := by omega
    rw [clamped]
    rfl
  · have biased : 0x80 + (max (-31) (min 31 level.toInt) + 32) = 0xA0 + level.toInt := by omega
    rw [biased]

/-- One of the three modes is sent with its own byte (41_counter_encoder R160). -/
theorem execCntSetMode_known {m : Byte} {k : Fin 3} (h : m.toNat = k.val) (s : State) :
    execCntSetMode m s = .next ((s.sendCnt [Config.cntModeByte k]).retCnt .ok) := by
  have known : m.toNat ≤ 2 := by omega
  have index : (⟨m.toNat, by omega⟩ : Fin 3) = k := Fin.ext h
  rw [execCntSetMode, dif_pos known, index]

/-- Any other mode is refused, with nothing sent (41_counter_encoder R160). -/
theorem execCntSetMode_unknown {m : Byte} (h : 2 < m.toNat) (s : State) :
    execCntSetMode m s = .next (s.retCnt .invalidArgument) := by
  rw [execCntSetMode, dif_neg h.not_ge]

/-- Settles O12: `execCntSetMode_known` and `execCntSetMode_unknown` for the mode, `triggerByte_eq_ite` for the level. -/
theorem counterCommandsSend : Obligations.CounterCommandsSend := by
  unfold Obligations.CounterCommandsSend
  intro s
  refine ⟨?known, ?unknown, ?trigger⟩
  case known =>
    intro m k h
    exact (execCntSetMode_known h s).trans (congrArg _ (sendCnt_retCnt s _ _))
  case unknown => exact fun m h => execCntSetMode_unknown h s
  case trigger =>
    intro level
    rw [← triggerByte_eq_ite]
    exact congrArg _ (sendCnt_retCnt s _ _)

end Sys2Proof.Machine
end

section
/-! The generator's decoder, its receive buffer and the fields of its packet map, each by what it answers
(42_generator_decoder R174, R178; 20_memory R83). -/

namespace Sys2Proof

/-! ### Decoder -/

/-- A slot's notification byte is `0x30` plus the slot (42_generator_decoder R170). -/
theorem memldByte_eq_ofNat : ∀ slot : BitVec 3, 0b00110#5 ++ slot = BitVec.ofNat 8 (0x30 + slot.toNat) := by decide

/-- Every byte from `0x30` to `0x37` is the notification byte of a slot. -/
theorem eq_memldByte : ∀ b : Byte, 0x30 ≤ b.toNat → b.toNat ≤ 0x37 →
    b = 0b00110#5 ++ BitVec.ofNat 3 (b.toNat - 0x30) := by decide

/-- A byte that opens nothing is one that `GEN.LOST` takes, in numbers. -/
theorem genLost_wf {b : Byte} (memory : ¬(0x30 ≤ b.toNat ∧ b.toNat ≤ 0x37)) (ack : b ≠ 0xD3#8) (pkt : b ≠ 0xD2#8) :
    (Instr.genLost b).wf = true := by
  have unknown : genKnown b = false := (genKnown_eq_false_iff b).2 ⟨memory, ack, pkt⟩
  simp [Instr.wf, unknown]

/-- In packet mode the byte is counted and not looked at (42_generator_decoder R178). -/
theorem decodeGen_inPacket (rxlen : BitVec 4) (b : Byte) :
    decodeGen true rxlen b = if rxlen.toNat < 9 then .genData b else .genLast b := by
  rw [decodeGen, if_neg Bool.noConfusion]
  exact if_congr (Laws.rxlen_lt rxlen) rfl rfl

end Sys2Proof

namespace Sys2Proof.Machine

/-! ### Receive buffer -/

/-- A write to the buffer replaces its own element and keeps the other nine. -/
theorem getElem_memWrite (buf : Vector Byte 10) (i j : Fin 10) (v : Byte) :
    (memWrite buf i v)[j] = if j.val = i.val then v else buf[j] := by
  split_ifs with here
  · obtain rfl : j = i := Fin.ext here
    exact memRead_memWrite_same buf j v
  · exact memRead_memWrite_other buf i j v fun e => here (congrArg Fin.val e.symm)

/-! ### Packet fields -/

/-- A wave is read back from its code. -/
theorem waveOf_waveCode (w : Wave) : waveOf ((waveCode w).setWidth 8) = w := by cases w <;> rfl

/-- A filter is read back from its code. -/
theorem filterOf_filterCode (f : OutFilter) : filterOf ((filterCode f).setWidth 8) = f := by cases f <;> rfl

theorem waveCode_injective : Function.Injective waveCode :=
  Function.LeftInverse.injective (g := fun code : BitVec 3 => waveOf (code.setWidth 8)) waveOf_waveCode

theorem filterCode_injective : Function.Injective filterCode :=
  Function.LeftInverse.injective (g := fun code : BitVec 3 => filterOf (code.setWidth 8)) filterOf_filterCode

/-- The wave of a packet byte is the one with the code that R176 names. -/
theorem waveOf_eq {b : Byte} {w : Wave} (code : (waveCode w).toNat = if b.toNat ≤ 7 then b.toNat else 0) :
    waveOf b = w :=
  waveCode_injective (BitVec.eq_of_toNat_eq ((waveOf_code b).trans code.symm))

/-- The filter of a packet byte is the one with the code that R176 names. -/
theorem filterOf_eq {b : Byte} {f : OutFilter} (code : (filterCode f).toNat = if b.toNat ≤ 3 then b.toNat else 4) :
    filterOf b = f :=
  filterCode_injective (BitVec.eq_of_toNat_eq ((filterOf_code b).trans code.symm))

theorem slotOf_eq_ofNat (b : Byte) : slotOf b = BitVec.ofNat 3 (b.toNat % 8) := by
  rw [← slotOf_toNat, BitVec.ofNat_toNat, BitVec.setWidth_eq]

/-- A 24-bit word is read as two's complement (30_encoding R110). -/
theorem toInt_word24 (f : BitVec 24) :
    f.toInt = if f.toNat < 8388608 then (f.toNat : Int) else (f.toNat : Int) - 16777216 := by
  rw [BitVec.toInt_eq_toNat_cond]
  split_ifs <;> omega

end Sys2Proof.Machine
end

section
/-! The obligations about the generator's receive operations (42_generator_decoder R170 to R179). The decoder's part of
each is the law of `Laws.Selection` for the context that selects the operation. -/

namespace Sys2Proof.Machine

/-- Settles O4: outside a packet by the laws of `Laws.Selection`, inside one `decodeGen_inPacket`. -/
theorem generatorDispatch : Obligations.GeneratorDispatch := by
  unfold Obligations.GeneratorDispatch
  intro q b
  refine ⟨?memory, ?ack, ?pkt, ?lost, ?data, ?last⟩
  case memory =>
    intro idle first last
    have selected := Laws.Selection.genMemld (BitVec.ofNat 3 (b.toNat - 0x30)) q idle rfl
    rwa [Instr.toInput, ← eq_memldByte b first last] at selected
  case ack =>
    rintro idle rfl
    exact Laws.Selection.genAck q idle rfl
  case pkt =>
    rintro idle rfl
    exact Laws.Selection.genPkt q idle rfl
  case lost => exact fun idle memory ack pkt => Laws.Selection.genLost b q idle (genLost_wf memory ack pkt)
  case data =>
    intro inPacket room
    rw [decodeRx, inPacket, decodeGen_inPacket, if_pos room]
  case last =>
    intro inPacket full
    rw [decodeRx, inPacket, decodeGen_inPacket, if_neg full.not_gt]

/-- Settles O13: the event is appended first, the request byte after it. -/
theorem genMemoryLoadedRequestsState : Obligations.GenMemoryLoadedRequestsState := by
  unfold Obligations.GenMemoryLoadedRequestsState
  intro s slot
  refine ⟨?selected, ?executed⟩
  case selected =>
    intro idle
    rw [← memldByte_eq_ofNat]
    exact Laws.Selection.genMemld slot s.seq idle rfl
  case executed =>
    show execGenMemld slot s = _
    simp [execGenMemld, State.emitGen, State.sendGen]

/-- Settles O14: each of the two operations appends its event, by its definition. -/
theorem genAckAndLostReported : Obligations.GenAckAndLostReported := by
  unfold Obligations.GenAckAndLostReported
  intro s b
  exact ⟨fun idle => Laws.Selection.genAck s.seq idle rfl, rfl,
    fun idle memory pkt ack => Laws.Selection.genLost b s.seq idle (genLost_wf memory ack pkt), rfl, rfl⟩

/-- Settles O15: the buffer is the old one with the sentinel written at index 0. -/
theorem genPacketOpens : Obligations.GenPacketOpens := by
  unfold Obligations.GenPacketOpens
  intro s
  exact ⟨fun idle => Laws.Selection.genPkt s.seq idle rfl, memWrite s.gen.rxbuf 0 Config.genSentinel, rfl,
    fun i => getElem_memWrite s.gen.rxbuf 0 i Config.genSentinel⟩

/-- Settles O16: the buffer is the old one with the byte written at index `rxlen`, which the packet still has. -/
theorem genPacketByteStored : Obligations.GenPacketByteStored := by
  unfold Obligations.GenPacketByteStored
  intro s b inPacket first last
  have room : s.gen.rxlen.toNat < 10 := by omega
  have next : BitVec.ofNat 4 (s.gen.rxlen.toNat + 1) = s.gen.rxlen + 1#4 := by
    rw [BitVec.ofNat_add, BitVec.ofNat_toNat, BitVec.setWidth_eq]
  refine ⟨Laws.Selection.genData b s.seq ⟨inPacket, first, last⟩ rfl,
    memWrite s.gen.rxbuf ⟨s.gen.rxlen.toNat, room⟩ b, ?stored, fun i => getElem_memWrite s.gen.rxbuf _ i b⟩
  rw [next]
  exact execGenData_of_lt s b room

/-- Settles O18: byte 9 is in no field (`parsePacket_memWrite_last`), and each field is the one R174 reads at its place
of the packet map. -/
theorem genPacketCompletes : Obligations.GenPacketCompletes := by
  unfold Obligations.GenPacketCompletes
  rintro s b w f raw24 raw wave filter hraw24 hraw
  have word : (memRead3 s.gen.rxbuf 2).toNat = raw24 := (toNat_three_bytes _ _ _).trans hraw24.symm
  have frequency : memRead3 s.gen.rxbuf 2 = BitVec.ofNat 24 raw24 := by
    rw [← word, BitVec.ofNat_toNat, BitVec.setWidth_eq]
  have signed : (BitVec.ofNat 24 raw24).toInt = raw := by rw [← frequency, toInt_word24, word, hraw]
  have parsed : parsePacket s.gen s.gen.rxbuf =
      { awaiting := false, rxlen := 0#4, rxbuf := s.gen.rxbuf, wave := w, filter := f
        amplitude := s.gen.rxbuf[6], offset := s.gen.rxbuf[5], frequency := BitVec.ofNat 24 raw24
        memorySlot := BitVec.ofNat 3 (s.gen.rxbuf[8].toNat % 8) } := by
    rw [parsePacket, frequency, slotOf_eq_ofNat, waveOf_eq (b := memRead s.gen.rxbuf 1) wave,
      filterOf_eq (b := memRead s.gen.rxbuf 7) filter]
    rfl
  refine ⟨fun inPacket full => Laws.Selection.genLast b s.seq ⟨inPacket, full⟩ rfl, memWrite s.gen.rxbuf 9 b, ?executed,
    fun i => getElem_memWrite s.gen.rxbuf 9 i b⟩
  show execGenLast b s = _
  rw [execGenLast, parsePacket_memWrite_last, parsed]
  simp only [stateUpdatedEvent, signed, offsetToVolts_eq, amplitudeToVolts_eq]
  rfl

/-- Settles O19: the two serial waves divide by `asr(raw, 8)`, which is the floor; the other six are the definition. -/
theorem frequencyToHertzFormulas : Obligations.FrequencyToHertzFormulas := by
  unfold Obligations.FrequencyToHertzFormulas
  intro raw
  refine ⟨rfl, rfl, rfl, rfl, ?serial, rfl, rfl⟩
  intro w serial
  rw [← asr8_eq_floor]
  rcases List.mem_pair.1 serial with rfl | rfl
  · rfl
  · rfl

end Sys2Proof.Machine
end

section
/-! The bytes the generator's commands send, read as numbers (43_generator_encoder R201 to R207). -/

namespace Sys2Proof.Machine

/-- Sending and then returning appends to the generator's outputs, in this order, and changes nothing else. -/
theorem sendGen_retGen (s : State) (bytes : List Byte) (st : Status) :
    (s.sendGen bytes).retGen st = { s with genOut := s.genOut ++ (bytes.map .tx ++ [.ret st]) } := by
  simp [State.sendGen, State.retGen]

/-- A slot or wave number is reduced to its low three bits and added to its opcode (43_generator_encoder R201 to
R203). -/
theorem opcode_or_low3_eq_ofNat (op : BitVec 5) (b : Byte) :
    (op ++ 0#3) ||| (b &&& 0x07#8) = BitVec.ofNat 8 (8 * op.toNat + b.toNat % 8) := by
  have low : (b.extractLsb' 0 3).toNat = b.toNat % 8 := by rw [BitVec.extractLsb'_toNat, Nat.shiftRight_zero]
  apply BitVec.eq_of_toNat_eq
  rw [opcode_or_low3, BitVec.toNat_append, ← Nat.shiftLeft_add_eq_or_of_lt (b.extractLsb' 0 3).isLt, low,
    BitVec.toNat_ofNat]
  omega

/-- A filter number is reduced to its low two bits (43_generator_encoder R204). -/
theorem and_mask2_eq_ofNat : ∀ b : Byte, b &&& 0x03#8 = BitVec.ofNat 8 (b.toNat % 4) := by decide

/-- The bytes of a frequency word are its quotients by the powers of 256, reduced to eight bits
(43_generator_encoder R207). -/
theorem encodeFrequency_eq_ofNat (f : BitVec 32) :
    encodeFrequency f =
      [0x53#8, BitVec.ofNat 8 (f.toNat / 65536), BitVec.ofNat 8 (f.toNat / 256), BitVec.ofNat 8 f.toNat] := by
  have byte (k : Nat) : f.extractLsb' k 8 = BitVec.ofNat 8 (f.toNat / 2 ^ k) := by
    rw [BitVec.extractLsb', Nat.shiftRight_eq_div_pow]
  rw [encodeFrequency, byte 16, byte 8, byte 0, pow_zero, Nat.div_one]
  rfl

/-- Eight bits of a number are those of any integer it agrees with modulo 256. -/
theorem ofNat_eq_ofInt {n : Nat} {r : Int} (h : (n : Int) % 256 = r % 256) : BitVec.ofNat 8 n = BitVec.ofInt 8 r := by
  apply BitVec.eq_of_toNat_eq
  rw [BitVec.toNat_ofNat, BitVec.toNat_ofInt]
  omega

/-- Truncating an integer to 32 bits does not show in the three low bytes (43_generator_encoder R210). -/
theorem encodeFrequency_ofInt (r : Int) :
    encodeFrequency (BitVec.ofInt 32 r) =
      [0x53#8, BitVec.ofInt 8 (r / 65536), BitVec.ofInt 8 (r / 256), BitVec.ofInt 8 r] := by
  have word : ((BitVec.ofInt 32 r).toNat : Int) = r % 4294967296 := by
    rw [BitVec.toNat_ofInt]
    omega
  have high : BitVec.ofNat 8 ((BitVec.ofInt 32 r).toNat / 65536) = BitVec.ofInt 8 (r / 65536) :=
    ofNat_eq_ofInt (by omega)
  have middle : BitVec.ofNat 8 ((BitVec.ofInt 32 r).toNat / 256) = BitVec.ofInt 8 (r / 256) :=
    ofNat_eq_ofInt (by omega)
  have low : BitVec.ofNat 8 (BitVec.ofInt 32 r).toNat = BitVec.ofInt 8 r := ofNat_eq_ofInt (by omega)
  rw [encodeFrequency_eq_ofNat, high, middle, low]

end Sys2Proof.Machine
end

section
/-! Rounding on the reals, and the conversion from hertz (00_scope R16, 43_generator_encoder R209). -/

namespace Sys2Proof.Machine

/-- The machine's `round` is the one of the reals. -/
theorem roundHalfAwayReal_cast (x : ℚ) : roundHalfAwayReal (x : ℝ) = roundHalfAway x := by
  have floor_half (y : ℚ) : ⌊((y + 1 / 2 : ℚ) : ℝ)⌋ = (y + 1 / 2).floor := Rat.floor_cast (y + 1 / 2)
  have up := floor_half x
  have down := floor_half (-x)
  push_cast at up down
  simp only [roundHalfAwayReal, roundHalfAway, Rat.cast_nonneg, up, down]

/-- The sign is put back after rounding, so the distance and the size are those of the absolute value under Mathlib's
`round`. -/
theorem abs_roundHalfAwayReal (x : ℝ) :
    |x - roundHalfAwayReal x| = |(|x|) - round (|x|)| ∧ |(roundHalfAwayReal x : ℝ)| = |(round (|x|) : ℝ)| := by
  rw [roundHalfAwayReal, ← round_eq, ← round_eq]
  split_ifs with sign
  · rw [abs_of_nonneg sign]
    exact ⟨rfl, rfl⟩
  · rw [abs_of_neg (not_le.1 sign), Int.cast_neg, sub_neg_eq_add, abs_neg, ← neg_add', abs_neg]
    exact ⟨rfl, rfl⟩

/-- Mathlib's `round` takes a tie upwards. -/
theorem lt_round_of_tie {x : ℝ} (tie : |x - round x| = 1 / 2) : x < round x := by
  have above := Int.lt_floor_add_one (x + 1 / 2)
  rw [← round_eq] at above
  rcases eq_or_eq_neg_of_abs_eq tie with h | h <;> linarith

theorem roundHalfAwayReal_nearest (x : ℝ) : |x - roundHalfAwayReal x| ≤ 1 / 2 := by
  rw [(abs_roundHalfAwayReal x).1]
  exact abs_sub_round |x|

/-- On a tie the integer farther from zero is taken. -/
theorem roundHalfAwayReal_tie {x : ℝ} (tie : |x - roundHalfAwayReal x| = 1 / 2) :
    |x| < |(roundHalfAwayReal x : ℝ)| := by
  obtain ⟨distance, size⟩ := abs_roundHalfAwayReal x
  rw [distance] at tie
  rw [size]
  exact (lt_round_of_tie tie).trans_le (le_abs_self _)

/-- On a rational operand the machine converts as the printed formula does (43_generator_encoder R209). -/
theorem hertzToRaw_eq_hertzToRawReal (hz : ℚ) (w : Wave) : hertzToRaw hz w = hertzToRawReal (hz : ℝ) w := by
  rw [hertzToRaw_eq, hertzToRawReal_eq]
  congr 1
  funext k
  rw [← roundHalfAwayReal_cast]
  push_cast
  rfl

end Sys2Proof.Machine
end

section
/-! The obligations about the generator's commands and about commands in general (43_generator_encoder). -/

namespace Sys2Proof.Machine

/-- Settles O40: the unit's own command lemma gives the state, the old one with the encoding sent and a status
returned. -/
theorem commandsTouchNoRegister : Obligations.CommandsTouchNoRegister := by
  unfold Obligations.CommandsTouchNoRegister
  intro i s hkind
  cases hunit : i.unit with
  | cnt =>
    obtain ⟨st, hexec⟩ := exec_cntCommand s hkind hunit
    exact ⟨_, hexec, by simp [registersOf]⟩
  | gen =>
    obtain ⟨st, hexec⟩ := exec_genCommand s hkind hunit
    exact ⟨_, hexec, by simp [registersOf]⟩
  | vam => exact absurd hunit (unit_ne_vam_of_tx hkind)

/-- Settles O52: `hertzToRaw_eq_hertzToRawReal` on the rationals, `hertzToRaw_realOperand` on the reals. -/
theorem hertzToRawAgreesWithReals : Obligations.HertzToRawAgreesWithReals := by
  unfold Obligations.HertzToRawAgreesWithReals
  exact fun w => ⟨fun hz => hertzToRaw_eq_hertzToRawReal hz w, fun hz => hertzToRaw_realOperand hz w⟩

/-- Settles O20: `opcode_or_low3_eq_ofNat` at the opcodes of `GEN.SAVE` and `GEN.LOAD`. -/
theorem genOneByteCommandsSend : Obligations.GenOneByteCommandsSend := by
  unfold Obligations.GenOneByteCommandsSend
  intro s slot
  have save : 0x60#8 ||| (slot &&& 0x07#8) = BitVec.ofNat 8 (0x60 + slot.toNat % 8) :=
    opcode_or_low3_eq_ofNat 0b01100#5 slot
  have load : 0x70#8 ||| (slot &&& 0x07#8) = BitVec.ofNat 8 (0x70 + slot.toNat % 8) :=
    opcode_or_low3_eq_ofNat 0b01110#5 slot
  rw [← save, ← load]
  exact ⟨congrArg _ (sendGen_retGen s _ _), congrArg _ (sendGen_retGen s _ _), congrArg _ (sendGen_retGen s _ _)⟩

/-- Settles O21: wave 0 is tested on the whole operand, and any other wave is sent under its opcode. -/
theorem genSetWaveSkipsZero : Obligations.GenSetWaveSkipsZero := by
  unfold Obligations.GenSetWaveSkipsZero
  intro s wave
  show execGenSetWave wave s = _
  have zero : wave.toNat = 0 ↔ wave = 0#8 := BitVec.toNat_inj (y := 0#8)
  have sent : 0x30#8 ||| (wave &&& 0x07#8) = BitVec.ofNat 8 (0x30 + wave.toNat % 8) :=
    opcode_or_low3_eq_ofNat 0b00110#5 wave
  rw [execGenSetWave, ← sent]
  by_cases silent : wave = 0#8
  · rw [if_pos silent, if_pos (zero.2 silent), List.append_nil]
    rfl
  · rw [if_neg silent, if_neg (mt zero.1 silent), sendGen_retGen, List.append_assoc]
    rfl

/-- Settles O22: the filter by `and_mask2_eq_ofNat`, amplitude and offset as they are. -/
theorem genTwoByteCommandsSend : Obligations.GenTwoByteCommandsSend := by
  unfold Obligations.GenTwoByteCommandsSend
  intro s x
  rw [← and_mask2_eq_ofNat]
  exact ⟨congrArg _ (sendGen_retGen s _ _), congrArg _ (sendGen_retGen s _ _), congrArg _ (sendGen_retGen s _ _)⟩

/-- Settles O23: the masks and shifts are the encoding's fields, and those the quotients. -/
theorem genSetFrequencySendsThreeBytes : Obligations.GenSetFrequencySendsThreeBytes := by
  unfold Obligations.GenSetFrequencySendsThreeBytes
  intro s f
  show execGenSetFrequency f s = _
  rw [execGenSetFrequency, sendGen_retGen, frequencyBytes_eq_encodeFrequency, encodeFrequency_eq_ofNat]
  rfl

/-- A converted frequency is sent by its three low bytes (43_generator_encoder R210). -/
theorem execGenSetFreqHz_of_some {hz : ℚ} {w : Wave} {r : Int} (h : hertzToRaw hz w = some r) (s : State) :
    execGenSetFreqHz hz w s =
      .next
        { s with
          genOut := s.genOut ++
            [.tx 0x53#8, .tx (BitVec.ofInt 8 (r / 65536)), .tx (BitVec.ofInt 8 (r / 256)), .tx (BitVec.ofInt 8 r),
              .ret .ok] } := by
  simp [execGenSetFreqHz, h, sendGen_retGen, frequencyBytes_eq_encodeFrequency, trunc32, encodeFrequency_ofInt]

/-- A wave without a formula sends nothing and is reported (43_generator_encoder R210). -/
theorem execGenSetFreqHz_of_none {hz : ℚ} {w : Wave} (h : hertzToRaw hz w = none) (s : State) :
    execGenSetFreqHz hz w s = .next { s with genOut := s.genOut ++ [.ret .unsupported] } := by
  simp [execGenSetFreqHz, h, State.retGen]

/-- The factors of 43_generator_encoder R209 as real numbers. -/
theorem hertzToRawReal_of_factor {w : Wave} {k : ℝ}
    (h : (w, k) ∈ [(Wave.sine, (9 : ℝ)), (.triangle, 9), (.sawtooth, 6), (.square, 7)]) (hz : ℝ) :
    hertzToRawReal hz w = some (roundHalfAwayReal (16777216 * k * hz / 20000000)) := by
  simp only [List.mem_cons, Prod.mk.injEq, List.not_mem_nil, or_false] at h
  obtain ⟨rfl, rfl⟩ | ⟨rfl, rfl⟩ | ⟨rfl, rfl⟩ | ⟨rfl, rfl⟩ := h <;> rfl

theorem hertzToRaw_unsupported {w : Wave} (h : w ∈ [Wave.unknown, .bwVideo, .serial, .serialInverted]) (hz : ℚ) :
    hertzToRaw hz w = none := by
  simp only [List.mem_cons, List.not_mem_nil, or_false] at h
  obtain rfl | rfl | rfl | rfl := h <;> rfl

/-- Settles O24: either operand converts to the rounded scaled hertz, which is nearest and on a tie farther from
zero. -/
theorem genSetFreqHzRoundsAndSends : Obligations.GenSetFreqHzRoundsAndSends := by
  unfold Obligations.GenSetFreqHzRoundsAndSends
  intro s hz q w operand
  have converts : hertzToRaw q w = hertzToRawReal hz w := by
    rcases operand with rfl | rfl
    · exact hertzToRaw_eq_hertzToRawReal q w
    · exact hertzToRaw_realOperand hz w
  refine ⟨rfl, ?supported, fun unsupported => execGenSetFreqHz_of_none (hertzToRaw_unsupported unsupported q) s⟩
  case supported =>
    rintro k x factor rfl
    exact ⟨_, roundHalfAwayReal_nearest _, roundHalfAwayReal_tie,
      execGenSetFreqHz_of_some (converts.trans (hertzToRawReal_of_factor factor hz)) s⟩

end Sys2Proof.Machine
end

section
/-! The control codes of the VAmeter (44_vameter_decoder R231), and bit 7, which parts control bytes from data bytes
(R230). -/

namespace Sys2Proof

theorem msb_iff_control (b : Byte) : b.msb = true ↔ 0x80 ≤ b.toNat := by
  rw [BitVec.msb_eq_decide, decide_eq_true_iff]

/-- A byte below `0x80` is one that the VAmeter's data operations take. -/
theorem dataByte_wf {b : Byte} (data : b.toNat < 0x80) : (!b.msb) = true := by
  rw [Bool.not_eq_true', ← Bool.not_eq_true, msb_iff_control]
  exact data.not_ge

/-- The nine control codes, in the order of their parameters. -/
theorem controlCodes_eq :
    [Config.vamCcVRange, Config.vamCcVZero, Config.vamCcVGain, Config.vamCcVSample, Config.vamCcIRange2A,
      Config.vamCcIRange600mA, Config.vamCcIZero, Config.vamCcIGain, Config.vamCcISample] = List.ofFn Config.vamCc :=
  rfl

end Sys2Proof

namespace Sys2Proof.Machine

/-- The command of the `k`-th control code (44_vameter_decoder R231). -/
def codeCommand : Fin 9 → VamCmd
  | 0 => .vRange
  | 1 => .vZero
  | 2 => .vGain
  | 3 => .vSample
  | 4 => .iRange2A
  | 5 => .iRange600mA
  | 6 => .iZero
  | 7 => .iGain
  | 8 => .iSample

/-- The comparisons of `vam_cmd_of`, code by code. -/
theorem vamCmdOf_eq_ite (b : Byte) :
    vamCmdOf b =
      if b = Config.vamCc 0 then .vRange else if b = Config.vamCc 1 then .vZero else if b = Config.vamCc 2 then .vGain
      else if b = Config.vamCc 3 then .vSample else if b = Config.vamCc 4 then .iRange2A
      else if b = Config.vamCc 5 then .iRange600mA else if b = Config.vamCc 6 then .iZero
      else if b = Config.vamCc 7 then .iGain else if b = Config.vamCc 8 then .iSample else .none :=
  rfl

/-- A control code is mapped to its own command: it differs from the codes compared before it. -/
theorem vamCmdOf_vamCc (k : Fin 9) : vamCmdOf (Config.vamCc k) = codeCommand k := by
  simp only [vamCmdOf_eq_ite, vamCc_inj]
  revert k
  decide

/-- A byte that is no control code is mapped to no command. -/
theorem vamCmdOf_eq_none {b : Byte} (other : ∀ k, b ≠ Config.vamCc k) : vamCmdOf b = .none := by
  simp only [vamCmdOf_eq_ite, other, if_false]

end Sys2Proof.Machine
end

section
/-! The obligations about the VAmeter's control codes, about the value of a sample, and about the dispatch of its bytes
(44_vameter_decoder R230, R231, R246). -/

namespace Sys2Proof.Machine

/-- Settles O25: `vamCmdOf_vamCc` code by code, and `vamCmdOf_eq_none` off the list. -/
theorem vamControlCodesSelect : Obligations.VamControlCodesSelect := by
  unfold Obligations.VamControlCodesSelect
  rw [controlCodes_eq]
  refine ⟨vamCmdOf_vamCc 0, vamCmdOf_vamCc 1, vamCmdOf_vamCc 2, vamCmdOf_vamCc 3, vamCmdOf_vamCc 4, vamCmdOf_vamCc 5,
    vamCmdOf_vamCc 6, vamCmdOf_vamCc 7, vamCmdOf_vamCc 8, ?control, ?other⟩
  case control =>
    intro b code
    obtain ⟨k, rfl⟩ := List.mem_ofFn.1 code
    exact (msb_iff_control _).1 (vamCc_msb k)
  case other => exact fun b off => vamCmdOf_eq_none fun k code => off (List.mem_ofFn.2 ⟨k, code.symm⟩)

/-- With the references apart the value is the pair of the rational under the root and the scale entry. -/
theorem vamMagnitude_of_ne {gain zero : ℚ} (apart : gain ≠ zero) (sum : ℚ) (count : Nat) (e : ScaleEntry)
    (m : CalFactor) :
    vamMagnitude sum count e gain zero m =
      .value { radicand := sum / count * ((m.val : ℚ) / 1000) ^ 2 / (gain - zero) ^ 2, scale := e } :=
  if_neg apart

/-- Settles O36: the rational under the root stands for the printed formula by `sqrt_radicand`, and `num` is applied to
it once. -/
theorem sampleValueIsMagnitude : Obligations.SampleValueIsMagnitude := by
  unfold Obligations.SampleValueIsMagnitude
  refine ⟨?sample, fun F x => ⟨rfl, rfl⟩⟩
  intro sum count e gain zero m _
  refine ⟨(vamMagnitude_eq_divideByZero ..).2, fun apart => ⟨_, vamMagnitude_of_ne apart .., fun F => ?reads⟩⟩
  case reads =>
    have formula := sqrt_radicand (sum / count) gain zero m (scaleReal e)
    rw [Rat.cast_div sum, Rat.cast_natCast] at formula
    exact congrArg F.num formula

/-- Settles O5: each row of the dispatch table is the context of its operation, and bit 7 its well-formedness. -/
theorem vameterDispatch : Obligations.VameterDispatch := by
  unfold Obligations.VameterDispatch
  intro q b
  refine ⟨fun control => Laws.Selection.vamCtrl b q trivial ((msb_iff_control b).2 control), fun data => ?data⟩
  have wf : (!b.msb) = true := dataByte_wf data
  exact ⟨fun cmd => Laws.Selection.vamVrange b q cmd wf,
    fun cmd => Laws.Selection.vamIrange false b q cmd wf,
    fun cmd => Laws.Selection.vamIrange true b q cmd wf,
    fun cmd empty => Laws.Selection.vamReflo b q ⟨cmd, empty⟩ wf,
    fun cmd full => Laws.Selection.vamRefhi b q ⟨cmd, full⟩ wf,
    fun cmd empty => Laws.Selection.vamSmplo b q ⟨cmd, empty⟩ wf,
    fun cmd full => Laws.Selection.vamSmphi .voltage b q ⟨cmd, full⟩ wf,
    fun cmd full => Laws.Selection.vamSmphi .current b q ⟨cmd, full⟩ wf,
    fun cmd => Laws.Selection.vamStray b q cmd wf⟩

end Sys2Proof.Machine
end

section
/-! What `VAM.CTRL` does, by the command whose run it closes (44_vameter_decoder R232, R233, R243, R244). -/

namespace Sys2Proof.Machine

/-- `VAM.CTRL` after a finalisation that leaves the registers `r` and the outputs `out` (44_vameter_decoder R232). -/
theorem exec_vamCtrl_of_finalise {s : State} {r : VamRegs} {out : List VamOut}
    (closed : finalise s = { s with vam := r, vamOut := out }) (b : Byte) :
    exec (.vamCtrl b) s =
      .next
        { s with
          vam := { r with sum := 0, count := 0, latchFull := false, cmd := vamCmdOf b }
          vamOut := out ++ if vamCmdOf b = .none then [.ev (.decodeError .unknownControl (some b))] else [] } := by
  show Host.Outcome.next (selectCommand b (clearRun (finalise s))) = _
  rw [closed, selectCommand_clearRun]

/-! ### No run -/

/-- With no command and under a range command there is nothing to finalise (44_vameter_decoder R233). -/
theorem finalise_noRun {s : State} (idle : s.vam.cmd ∈ [VamCmd.none, .vRange, .iRange2A, .iRange600mA]) :
    finalise s = s := by
  simp only [List.mem_cons, List.not_mem_nil, or_false] at idle
  obtain hcmd | hcmd | hcmd | hcmd := idle <;> rw [finalise, hcmd]

/-! ### A reference run -/

/-- The mean of a closed run by whether it is empty (44_vameter_decoder R243, R249). -/
theorem referenceMean_eq_ite (r : VamRegs) (old : ℚ) :
    referenceMean r old = if r.count = 0 then old else r.sum / (r.count : ℚ) := by
  simp only [referenceMean, Nat.pos_iff_ne_zero, ite_not]

/-! ### A sample run -/

/-- What closing a sample run of the quantity puts out: nothing for an empty run, the error for equal references, else
the sample (44_vameter_decoder R244 to R246, R249, R250). -/
def sampleReport (q : Quantity) (r : VamRegs) : List VamOut :=
  if r.count = 0 then []
  else if r.gainOf q = r.zeroOf q then [.ev (.decodeError .divideByZero none)]
  else
    [.ev (sampleEvent q (polarity (r.negOf q) r.count) (numMagnitude
      { radicand := r.sum / r.count * ((r.calOf q).val / 1000) ^ 2 / (r.gainOf q - r.zeroOf q) ^ 2
        scale := r.scaleOf q }))]

/-- Closing a sample run appends `sampleReport` and changes nothing else. -/
theorem reportSample_eq (q : Quantity) (s : State) :
    reportSample q s = { s with vamOut := s.vamOut ++ sampleReport q s.vam } := by
  unfold sampleReport
  split_ifs with empty equal
  · simp [reportSample, empty]
  · rw [reportSample, if_pos (Nat.pos_of_ne_zero empty), (vamMagnitude_eq_divideByZero ..).2 equal]
    rfl
  · exact reportSample_of_run (Nat.pos_of_ne_zero empty) equal

/-- `VAM.CTRL` closing a sample run of the quantity (44_vameter_decoder R232, R233, R244). -/
theorem exec_vamCtrl_sample {q : Quantity} {s : State} (hcmd : s.vam.cmd = sampleCmd q) (b : Byte) :
    exec (.vamCtrl b) s =
      .next
        { s with
          vam := { s.vam.setNeg q 0 with sum := 0, count := 0, latchFull := false, cmd := vamCmdOf b }
          vamOut :=
            s.vamOut ++ sampleReport q s.vam ++
              if vamCmdOf b = .none then [.ev (.decodeError .unknownControl (some b))] else [] } := by
  refine exec_vamCtrl_of_finalise ?_ b
  rw [finalise_sample hcmd, finaliseSample, reportSample_eq]
  rfl

end Sys2Proof.Machine
end

section
/-! The obligations about `VAM.CTRL` (44_vameter_decoder R232, R233, R243 to R250). -/

namespace Sys2Proof.Machine

/-- Settles O26: there is nothing to finalise, so the control byte finds the registers as they are. -/
theorem vamCtrlAfterNoRun : Obligations.VamCtrlAfterNoRun := by
  unfold Obligations.VamCtrlAfterNoRun
  exact fun s b idle => exec_vamCtrl_of_finalise (finalise_noRun idle) b

/-- Settles O27: `finalise_reference` writes the mean to the reference of the command, and keeps the other three. -/
theorem vamCtrlClosesReference : Obligations.VamCtrlClosesReference := by
  unfold Obligations.VamCtrlClosesReference
  rintro s b out mean rfl rfl
  have closes (href : isReferenceCmd s.vam.cmd = true) :=
    exec_vamCtrl_of_finalise (finalise_reference href) b
  simp only [referenceMean_eq_ite] at closes
  and_intros
  all_goals exact fun hcmd => (closes (by rw [hcmd]; rfl)).trans (by simp [hcmd])

/-- Settles O28: `exec_vamCtrl_sample` at the voltage. -/
theorem vamCtrlClosesVoltageRun : Obligations.VamCtrlClosesVoltageRun := by
  unfold Obligations.VamCtrlClosesVoltageRun
  exact fun s b hcmd => exec_vamCtrl_sample (q := .voltage) hcmd b

/-- Settles O29: `exec_vamCtrl_sample` at the current. -/
theorem vamCtrlClosesCurrentRun : Obligations.VamCtrlClosesCurrentRun := by
  unfold Obligations.VamCtrlClosesCurrentRun
  exact fun s b hcmd => exec_vamCtrl_sample (q := .current) hcmd b

end Sys2Proof.Machine
end

section
/-! What the VAmeter's data operations do (44_vameter_decoder R236 to R242): range letters, and the second byte of a
value. -/

namespace Sys2Proof.Machine

/-! ### Range letters -/

/-- A byte outside `'A'..'H'` is no voltage letter. -/
theorem vRangeIndex_eq_none {b : Byte} (outside : b.toNat < 0x41 ∨ 0x48 < b.toNat) : vRangeIndex b = none :=
  dif_neg (by omega)

/-- A byte outside `'A'..'D'` is no current letter. -/
theorem iRangeIndex_eq_none {b : Byte} (outside : b.toNat < 0x41 ∨ 0x44 < b.toNat) : iRangeIndex b = none :=
  dif_neg (by omega)

theorem vRangeChanged_iff (r : VamRegs) (i : Fin 8) :
    vRangeChanged r i = true ↔ r.vRangeValid = false ∨ i ≠ r.vRange := by
  simp [vRangeChanged]

theorem iRangeChanged_iff (r : VamRegs) (hw : Bool) (i : Fin 4) :
    iRangeChanged r hw i = true ↔ r.iRangeValid = false ∨ i ≠ r.iRange ∨ hw ≠ r.hwSwitch := by
  simp [iRangeChanged, or_assoc]

/-- An event under a condition, followed by a write of the VAmeter's registers. -/
theorem ite_emitVam_setVam (c : Prop) [Decidable c] (s : State) (e : VamEvent) (r : VamRegs) :
    (if c then s.emitVam e else s).setVam r =
      { s with vam := r, vamOut := s.vamOut ++ if c then [.ev e] else [] } := by
  split_ifs <;> simp [State.setVam, State.emitVam]

/-- A voltage letter stores its index and reports it when it is a change (44_vameter_decoder R236). -/
theorem execVamVrange_letter {b : Byte} {i : Fin 8} (letter : b.toNat = 0x41 + i.val) (s : State) :
    execVamVrange b s =
      .next
        { s with
          vam := { s.vam with vRange := i, vRangeValid := true }
          vamOut :=
            s.vamOut ++
              if s.vam.vRangeValid = false ∨ i ≠ s.vam.vRange then
                [.ev (.voltageRangeChanged i (Config.vamVLabel i))]
              else [] } := by
  simp only [execVamVrange, (vRangeIndex_eq_some b i).2 letter, ite_emitVam_setVam, vRangeChanged_iff]

/-- Any other byte under the voltage range command is reported and changes no register (44_vameter_decoder R238). -/
theorem execVamVrange_invalid {b : Byte} (outside : b.toNat < 0x41 ∨ 0x48 < b.toNat) (s : State) :
    execVamVrange b s = .next { s with vamOut := s.vamOut ++ [.ev (.decodeError .invalidRangeLetter (some b))] } := by
  rw [execVamVrange, vRangeIndex_eq_none outside]
  rfl

/-- A current letter stores its index and its variant, and reports them when they are a change (44_vameter_decoder
R237). -/
theorem execVamIrange_letter {b : Byte} {i : Fin 4} (letter : b.toNat = 0x41 + i.val) (hw : Bool) (s : State) :
    execVamIrange hw b s =
      .next
        { s with
          vam := { s.vam with iRange := i, hwSwitch := hw, iRangeValid := true }
          vamOut :=
            s.vamOut ++
              if s.vam.iRangeValid = false ∨ i ≠ s.vam.iRange ∨ hw ≠ s.vam.hwSwitch then
                [.ev (.currentRangeChanged hw i (Config.vamILabel hw i))]
              else [] } := by
  simp only [execVamIrange, (iRangeIndex_eq_some b i).2 letter, ite_emitVam_setVam, iRangeChanged_iff]

/-- Any other byte under a current range command is reported and changes no register (44_vameter_decoder R238). -/
theorem execVamIrange_invalid {b : Byte} (outside : b.toNat < 0x41 ∨ 0x44 < b.toNat) (hw : Bool) (s : State) :
    execVamIrange hw b s =
      .next { s with vamOut := s.vamOut ++ [.ev (.decodeError .invalidRangeLetter (some b))] } := by
  rw [execVamIrange, iRangeIndex_eq_none outside]
  rfl

/-! ### The second byte of a value -/

/-- The completed value in numbers (30_encoding R112). -/
theorem completedRaw_eq (b : Byte) (s : State) :
    completedRaw b s = ((b.toNat % 16 * 64 + s.vam.sampleLow.toNat % 64 : Nat) : ℚ) := by
  rw [completedRaw, raw10_toNat]

/-- A sample is counted as negative when its value lies below the zero reference (44_vameter_decoder R242). -/
theorem countNegative_eq_ite (q : Quantity) (b : Byte) (s : State) :
    countNegative q b s = if completedRaw b s < s.vam.zeroOf q then s.vam.negOf q + 1 else s.vam.negOf q := by
  simp only [countNegative, isNegative, deviation, sub_neg, decide_eq_true_eq]

/-- The second byte of a sample adds its squared deviation (44_vameter_decoder R242). -/
theorem execVamSmphi_eq (q : Quantity) (b : Byte) (s : State) :
    execVamSmphi q b s =
      .next
        (s.setVam
          { s.vam.setNeg q
              (if completedRaw b s < s.vam.zeroOf q then s.vam.negOf q + 1 else s.vam.negOf q) with
            sum := s.vam.sum + (completedRaw b s - s.vam.zeroOf q) ^ 2
            count := s.vam.count + 1
            latchFull := false }) := by
  rw [execVamSmphi, countNegative_eq_ite, ← pow_two, deviation]

end Sys2Proof.Machine
end

section
/-! The obligations about the VAmeter's data operations (44_vameter_decoder R236 to R242, R248). The decoder part of each
is the law of `Laws.Selection` for the context that selects the operation. -/

namespace Sys2Proof.Machine

/-- Settles O30: `execVamVrange_letter` inside `'A'..'H'` and `execVamVrange_invalid` outside. -/
theorem vamVoltageRangeLetter : Obligations.VamVoltageRangeLetter := by
  unfold Obligations.VamVoltageRangeLetter
  exact fun s b => ⟨fun data cmd => Laws.Selection.vamVrange b s.seq cmd (dataByte_wf data),
    fun i letter => execVamVrange_letter letter s, fun outside => execVamVrange_invalid outside s, rfl⟩

/-- Settles O31: `execVamIrange_letter` inside `'A'..'D'` and `execVamIrange_invalid` outside. -/
theorem vamCurrentRangeLetter : Obligations.VamCurrentRangeLetter := by
  unfold Obligations.VamCurrentRangeLetter
  exact fun s hw b => ⟨fun data cmd => Laws.Selection.vamIrange hw b s.seq cmd (dataByte_wf data),
    fun i letter => execVamIrange_letter letter hw s, fun outside => execVamIrange_invalid outside hw s, rfl⟩

/-- Settles O32: both operations are `latchLow`. -/
theorem vamFirstByteLatched : Obligations.VamFirstByteLatched := by
  unfold Obligations.VamFirstByteLatched
  exact fun s b => ⟨fun data cmd empty => Laws.Selection.vamReflo b s.seq ⟨cmd, empty⟩ (dataByte_wf data),
    fun data cmd empty => Laws.Selection.vamSmplo b s.seq ⟨cmd, empty⟩ (dataByte_wf data), rfl, rfl⟩

/-- Settles O33: the value added is `completedRaw`, in numbers by `completedRaw_eq`. -/
theorem vamReferenceValueAdded : Obligations.VamReferenceValueAdded := by
  unfold Obligations.VamReferenceValueAdded
  intro s b
  rw [← completedRaw_eq]
  exact ⟨fun data cmd full => Laws.Selection.vamRefhi b s.seq ⟨cmd, full⟩ (dataByte_wf data), rfl⟩

/-- Settles O34: `execVamSmphi_eq` for each quantity. -/
theorem vamSampleDeviationSquared : Obligations.VamSampleDeviationSquared := by
  unfold Obligations.VamSampleDeviationSquared
  intro s b raw completed
  obtain rfl : raw = completedRaw b s := completed.trans (completedRaw_eq b s).symm
  exact ⟨fun data cmd full => Laws.Selection.vamSmphi .voltage b s.seq ⟨cmd, full⟩ (dataByte_wf data),
    fun data cmd full => Laws.Selection.vamSmphi .current b s.seq ⟨cmd, full⟩ (dataByte_wf data),
    execVamSmphi_eq .voltage b s, execVamSmphi_eq .current b s⟩

/-- Settles O35: the error is appended and nothing else happens, by the definition of the operation. -/
theorem vamStrayReportsByte : Obligations.VamStrayReportsByte := by
  unfold Obligations.VamStrayReportsByte
  exact fun s b => ⟨fun data cmd => Laws.Selection.vamStray b s.seq cmd (dataByte_wf data), rfl, rfl⟩

end Sys2Proof.Machine
end

section
/-! What the VAmeter's calibration operations do, by the answer of the source (45_vameter_calibration_host R270, R271).
The registers a load stores are read back by `loadFactors_calV` and `loadFactors_calI`. -/

namespace Sys2Proof.Machine

/-- A list with fewer than twelve numbers is refused, and no register is changed (45_vameter_calibration_host R270). -/
theorem execVamCalLoad_tooFew {l : List CalFactor} (short : l.length < 12) (s : State) :
    execVamCalLoad (.numbers l) s = .next (s.retVam .calTooFewNumbers) :=
  dif_neg (by omega)

/-- A list with at least twelve numbers is loaded (45_vameter_calibration_host R270). -/
theorem execVamCalLoad_enough {l : List CalFactor} (enough : 12 ≤ l.length) (s : State) :
    execVamCalLoad (.numbers l) s = .next ((s.setVam (loadFactors s.vam l enough)).retVam .ok) :=
  dif_pos enough

/-- The registers after an unload differ from those before in the calibration alone. -/
theorem execVamCalUnload_vam {s t : State} (h : execVamCalUnload s = .next t) :
    t.vam =
      { s.vam with
        calV := Vector.replicate 8 Config.calDefault
        calI := Vector.replicate 4 Config.calDefault } := by
  cases h
  rfl

/-- A second unload finds the registers as it would leave them (45_vameter_calibration_host R271). -/
theorem execVamCalUnload_idempotent {s t u : State} (first : execVamCalUnload s = .next t)
    (second : execVamCalUnload t = .next u) : u.vam = t.vam := by
  rw [execVamCalUnload_vam second, execVamCalUnload_vam first]

end Sys2Proof.Machine
end

section
/-! The obligations about the VAmeter's calibration operations (45_vameter_calibration_host R270, R271). -/

namespace Sys2Proof.Machine

/-- Settles O37: a source with no list answers by the definition of the operation, and a list is split at its twelfth
number. -/
theorem calLoadAllOrNothing : Obligations.CalLoadAllOrNothing := by
  unfold Obligations.CalLoadAllOrNothing
  refine fun s => ⟨rfl, fun l short => execVamCalLoad_tooFew short s, fun l enough =>
    ⟨(loadFactors s.vam l enough).calV, (loadFactors s.vam l enough).calI, execVamCalLoad_enough enough s,
      fun k => ?_, fun k => ?_⟩⟩
  · rw [loadFactors_calV, List.getElem?_eq_getElem]
  · rw [loadFactors_calI, List.getElem?_eq_getElem]

/-- Settles O38: the registers written are constant vectors, and a second unload is `execVamCalUnload_idempotent`. -/
theorem calUnloadRestoresDefaults : Obligations.CalUnloadRestoresDefaults := by
  unfold Obligations.CalUnloadRestoresDefaults
  exact fun s => ⟨Vector.replicate 8 Config.calDefault, Vector.replicate 4 Config.calDefault, rfl,
    fun k => Vector.getElem_replicate k.isLt, fun k => Vector.getElem_replicate k.isLt,
    fun _ _ => execVamCalUnload_idempotent⟩

end Sys2Proof.Machine
end

section
/-! Runs of strobes and runs of garbage (60_exceptions R293, R294): no strobe for a unit that the machine holds stops
it, and bytes that each append one thing to a unit's outputs append them in order. -/

namespace Sys2Proof.Machine

/-- A machine that holds the units strobed completes its step: with no strobe nothing happens, and every strobe
completes. -/
theorem stepWith_completes {units : List UnitId} {s : State} (held : ∀ x ∈ s.inputs, inputUnit x ∈ units) :
    ∃ t, stepWith units s = .next t := by
  cases hin : s.inputs with
  | nil => exact ⟨s, stepWith_nil units s hin⟩
  | cons x rest =>
    have present : inputUnit x ∈ units := held x (hin ▸ List.mem_cons_self)
    obtain ⟨t, ht, -⟩ := inputStep_completes x (s.setInputs rest)
    exact ⟨t, (stepWith_cons units s x rest hin present).trans ht⟩

/-- Any number of steps completes from any state. -/
theorem run_completes (k : Nat) (s : State) : ∃ t, Sys2Proof.core.run k s = .next t := by
  induction k generalizing s with
  | zero => exact ⟨s, rfl⟩
  | succ k ih =>
    obtain ⟨m, hm⟩ : ∃ m, step s = .next m := stepWith_completes fun x _ => mem_unitsPresent (inputUnit x)
    rw [run_succ_of_step k s m hm]
    exact ih m

/-- When each byte of a run appends its `out` to a list that `put` writes into the state, whatever stands there already,
the run appends them all in order. -/
theorem feed_of_each_appends {α : Type} {u : UnitId} {put : List α → State} {out : Byte → α} {bs : List Byte}
    (each : ∀ l, ∀ b ∈ bs, inputStep (.rx u b) (put l) = .next (put (l ++ [out b]))) (l : List α) :
    feed u bs (put l) = .next (put (l ++ bs.map out)) := by
  induction bs generalizing l with
  | nil => rw [List.map_nil, List.append_nil, feed]
  | cons b bs ih =>
    have rest : ∀ l, ∀ c ∈ bs, inputStep (.rx u c) (put l) = .next (put (l ++ [out c])) := fun l c hc =>
      each l c (List.mem_cons_of_mem b hc)
    rw [feed_cons_of_inputStep u b bs _ _ (each l b List.mem_cons_self), ih rest, List.append_assoc]
    rfl

/-- Where the counter awaits the sentinel with no value begun, `CNT.LOST` changes no register (40_counter_decoder
R143). -/
theorem exec_cntLost_of_idle {s : State} (stage : s.cnt.stage = .awaitSentinel) (acc : s.cnt.acc = 0#24) (b : Byte) :
    exec (.cntLost b) s = .next (s.emitCnt (.syncLost b)) := by
  have same : { s.cnt with acc := 0#24, stage := .awaitSentinel } = s.cnt := by rw [← stage, ← acc]
  show execCntLost b s = _
  rw [execCntLost, same]
  rfl

end Sys2Proof.Machine
end

section
/-! The obligations about what arbitrary input can do to the machine's run (60_exceptions R293, R294). -/

namespace Sys2Proof.Machine

/-- Settles O45: `run_completes` and `stepWith_completes`. -/
theorem noInputStopsTheMachine : Obligations.NoInputStopsTheMachine := by
  unfold Obligations.NoInputStopsTheMachine
  exact ⟨fun s k => run_completes k s, fun _ _ held => stepWith_completes held⟩

/-- Settles O46: for each unit the error operation is the one selected, whatever the unit has put out before, and it
writes no register; `feed_of_each_appends`. -/
theorem noiseReportedByteByByte : Obligations.NoiseReportedByteByByte := by
  unfold Obligations.NoiseReportedByteByByte
  intro s bs
  refine ⟨?counter, ?generator, ?vameter⟩
  case counter =>
    intro inv stage noise
    refine feed_of_each_appends (put := fun l => { s with cntOut := l }) (fun l b hb => ?_) s.cntOut
    exact (inputStep_toInput (i := .cntLost b) (s := { s with cntOut := l }) stage (bne_iff_ne.2 (noise b hb))).trans
      (exec_cntLost_of_idle (s := { s with cntOut := l }) stage ((cntInv_awaitSentinel stage).1 inv) b)
  case generator =>
    intro idle noise
    refine feed_of_each_appends (put := fun l => { s with genOut := l }) (fun l b hb => ?_) s.genOut
    have unknown : (Instr.genLost b).wf = true := by rw [Instr.wf, noise b hb, Bool.not_false]
    exact inputStep_toInput (i := .genLost b) (s := { s with genOut := l }) idle unknown
  case vameter =>
    intro idle noise
    refine feed_of_each_appends (put := fun l => { s with vamOut := l }) (fun l b hb => ?_) s.vamOut
    exact inputStep_toInput (i := .vamStray b) (s := { s with vamOut := l }) idle (dataByte_wf (noise b hb))

end Sys2Proof.Machine
end

section
/-! What a received byte's operation can do (60_exceptions R291, R300): it writes registers of its own unit and puts
events out there, at most one but for a sample run that an unknown control byte closes; a byte is sent by `GEN.MEMLD`
alone. -/

namespace Sys2Proof.Machine

variable {i : Instr} {s t : State}

/-! ### Counter -/

/-- A receive operation of the counter writes the counter's registers and emits at most one event. -/
theorem exec_cnt_received (hkind : i.kind = .rx) (hunit : i.unit = .cnt) (h : exec i s = .next t) :
    ∃ r, ∃ evs : List CntEvent, t = { s with cnt := r, cntOut := s.cntOut ++ evs.map .ev } ∧ evs.length ≤ 1 := by
  cases i with
  | cntSent | cntNib =>
    cases h
    exact ⟨_, [], by rw [List.map_nil, List.append_nil]; rfl, Nat.zero_le 1⟩
  | cntLost b =>
    cases h
    exact ⟨_, [.syncLost b], rfl, le_rfl⟩
  | cntRange b =>
    cases h.symm.trans (execCntRange_eq b s)
    split_ifs
    · exact ⟨_, [.rangeChanged b], rfl, le_rfl⟩
    · exact ⟨_, [], rfl, Nat.zero_le 1⟩
  | cntNib5 b =>
    obtain ⟨evs, hreport, atMostOne⟩ :=
      reportCounterValue_frame (counterHertz s.cnt.range (s.cnt.acc ||| nibbleAt 5 b)) s
    simp only [exec, execCntNib5, hreport] at h
    cases h
    exact ⟨_, evs, rfl, atMostOne⟩
  | cntSetMode | cntSetTrigger | reset => cases hkind
  | _ => cases hunit

/-! ### Generator -/

/-- A receive operation of the generator is `GEN.MEMLD`, or writes the generator's registers and emits at most one
event. -/
theorem exec_gen_received (hkind : i.kind = .rx) (hunit : i.unit = .gen) (h : exec i s = .next t) :
    (∃ slot, i = .genMemld slot ∧ t = { s with genOut := s.genOut ++ [.ev (.memoryLoaded slot), .tx 0x3F#8] }) ∨
      ∃ r, ∃ evs : List GenEvent, t = { s with gen := r, genOut := s.genOut ++ evs.map .ev } ∧ evs.length ≤ 1 := by
  cases i with
  | genMemld slot =>
    have loaded := (genMemoryLoadedRequestsState s slot).2
    exact .inl ⟨slot, rfl, Host.Outcome.next.inj (h.symm.trans loaded)⟩
  | genAck | genLost | genLast =>
    cases h
    exact .inr ⟨_, [_], rfl, le_rfl⟩
  | genPkt =>
    cases h
    exact .inr ⟨_, [], by rw [List.map_nil, List.append_nil]; rfl, Nat.zero_le 1⟩
  | genData b =>
    simp only [exec, execGenData] at h
    split at h <;> cases h
    exact .inr ⟨_, [], by rw [List.map_nil, List.append_nil]; rfl, Nat.zero_le 1⟩
  | genSave | genLoad | genSetWave | genSetFilter | genSetAmplitude | genSetOffset | genSetFrequency | genRequestState
  | genSetFreqHz | reset => cases hkind
  | _ => cases hunit

/-! ### VAmeter -/

/-- The event that a closed sample run reports: the sample, or the error in its place (44_vameter_decoder R244,
R250). -/
def IsSampleReport (e : VamEvent) : Prop :=
  (∃ p x, e = .voltageSample p x) ∨ (∃ p x, e = .currentSample p x) ∨ e = .decodeError .divideByZero none

/-- Only a run with a sample in it is reported. -/
theorem sampleReport_mem {q : Quantity} {count : Nat} {evs : List VamEvent} {e : VamEvent}
    (report : SampleReport q count evs) (he : e ∈ evs) : 0 < count ∧ IsSampleReport e := by
  obtain ⟨-, empty, events⟩ := report
  refine ⟨Nat.pos_of_ne_zero fun zero => List.not_mem_nil (empty zero ▸ he), ?_⟩
  obtain rfl | ⟨p, x, rfl⟩ := events e he
  · exact .inr (.inr rfl)
  · cases q with
    | voltage => exact .inl ⟨p, x, rfl⟩
    | current => exact .inr (.inl ⟨p, x, rfl⟩)

/-- Finalisation emits at most one event, and that one the report of a sample run that is not empty. -/
theorem finalise_emits (s : State) :
    ∃ r, ∃ evs : List VamEvent, finalise s = { s with vam := r, vamOut := s.vamOut ++ evs.map .ev } ∧
      evs.length ≤ 1 ∧ ∀ e ∈ evs, isSampleCmd s.vam.cmd = true ∧ 0 < s.vam.count ∧ IsSampleReport e := by
  obtain ⟨evs, r, closed, hr⟩ := finalise_cases s
  refine ⟨r, evs, closed, ?_⟩
  obtain ⟨-, rfl, -⟩ | ⟨-, rfl, -⟩ | ⟨-, rfl, -⟩ | ⟨-, rfl, -⟩ | ⟨-, rfl, -⟩ | ⟨hcmd, report, -⟩ |
    ⟨hcmd, report, -⟩ := hr
  iterate 5 exact ⟨Nat.zero_le 1, nofun⟩
  all_goals
    have ⟨atMostOne, _⟩ := report
    exact ⟨atMostOne, fun e he => ⟨by rw [hcmd]; rfl, sampleReport_mem report he⟩⟩

/-- The one operation that emits two events: a control byte that selects no command closes a sample run that is not
empty; the run's report comes first (60_exceptions R291). -/
def ReportsThenUnknown (i : Instr) (s : State) (evs : List VamEvent) : Prop :=
  ∃ b e, i = .vamCtrl b ∧ vamCmdOf b = .none ∧ isSampleCmd s.vam.cmd = true ∧ 0 < s.vam.count ∧ IsSampleReport e ∧
    evs = [e, .decodeError .unknownControl (some b)]

theorem length_of_reportsThenUnknown {evs : List VamEvent} (reports : ReportsThenUnknown i s evs) : evs.length = 2 := by
  obtain ⟨b, e, -, -, -, -, -, rfl⟩ := reports
  rfl

/-- `VAM.CTRL` writes the VAmeter's registers and emits at most one event, or the two of `ReportsThenUnknown`. -/
theorem exec_vamCtrl_received {b : Byte} (h : exec (.vamCtrl b) s = .next t) :
    ∃ r, ∃ evs : List VamEvent, t = { s with vam := r, vamOut := s.vamOut ++ evs.map .ev } ∧
      (evs.length ≤ 1 ∨ ReportsThenUnknown (.vamCtrl b) s evs) := by
  obtain ⟨r, evs, closed, atMostOne, report⟩ := finalise_emits s
  cases h.symm.trans (exec_vamCtrl_of_finalise closed b)
  by_cases unknown : vamCmdOf b = .none
  · refine ⟨_, evs ++ [.decodeError .unknownControl (some b)], by simp [unknown]; rfl, ?_⟩
    match evs, atMostOne, report with
    | [], _, _ => exact .inl le_rfl
    | [e], _, report =>
      obtain ⟨sampling, nonempty, isReport⟩ := report e List.mem_cons_self
      exact .inr ⟨b, e, rfl, unknown, sampling, nonempty, isReport, rfl⟩
  · exact ⟨_, evs, by simp [unknown]; rfl, .inl atMostOne⟩

/-- A range operation's event is one or none. -/
theorem ite_emitVam_setVam_emits (c : Prop) [Decidable c] (s : State) (e : VamEvent) (r : VamRegs) :
    ∃ evs : List VamEvent, (if c then s.emitVam e else s).setVam r =
      { s with vam := r, vamOut := s.vamOut ++ evs.map .ev } ∧ evs.length ≤ 1 := by
  rw [ite_emitVam_setVam]
  split_ifs
  · exact ⟨[e], rfl, le_rfl⟩
  · exact ⟨[], rfl, Nat.zero_le 1⟩

/-- A receive operation of the VAmeter writes the VAmeter's registers and emits at most one event, or the two of
`ReportsThenUnknown`. -/
theorem exec_vam_received (hkind : i.kind = .rx) (hunit : i.unit = .vam) (h : exec i s = .next t) :
    ∃ r, ∃ evs : List VamEvent, t = { s with vam := r, vamOut := s.vamOut ++ evs.map .ev } ∧
      (evs.length ≤ 1 ∨ ReportsThenUnknown i s evs) := by
  cases i with
  | vamCtrl b => exact exec_vamCtrl_received h
  | vamVrange b =>
    simp only [exec, execVamVrange] at h
    split at h <;> cases h
    next idx _ =>
      obtain ⟨evs, hevs, atMostOne⟩ := ite_emitVam_setVam_emits (vRangeChanged s.vam idx) s _ _
      exact ⟨_, evs, hevs, .inl atMostOne⟩
    next => exact ⟨_, [_], rfl, .inl le_rfl⟩
  | vamIrange hw b =>
    simp only [exec, execVamIrange] at h
    split at h <;> cases h
    next idx _ =>
      obtain ⟨evs, hevs, atMostOne⟩ := ite_emitVam_setVam_emits (iRangeChanged s.vam hw idx) s _ _
      exact ⟨_, evs, hevs, .inl atMostOne⟩
    next => exact ⟨_, [_], rfl, .inl le_rfl⟩
  | vamReflo | vamRefhi | vamSmplo | vamSmphi =>
    cases h
    exact ⟨_, [], by rw [List.map_nil, List.append_nil]; rfl, .inl (Nat.zero_le 1)⟩
  | vamStray b =>
    cases h
    exact ⟨_, [.decodeError .unexpectedData (some b)], rfl, .inl le_rfl⟩
  | vamCalLoad | vamCalUnload | reset => cases hkind
  | _ => cases hunit

/-- A receive operation leaves the calibration registers alone. -/
theorem calibrationOf_of_received (hkind : i.kind = .rx) (hunit : i.unit = .vam) (h : exec i s = .next t) :
    calibrationOf t.vam = calibrationOf s.vam := by
  obtain ⟨-, same | ⟨src, rfl⟩ | rfl | rfl⟩ := exec_vam_frame hunit h
  · exact same
  all_goals cases hkind

end Sys2Proof.Machine
end

section
/-! What a unit's streams hold after events have been put out on the unit: the events behind the earlier ones, and the
same bytes and statuses. With them, the counts over all streams (60_exceptions R291). -/

namespace Sys2Proof.Machine

variable {i : Instr} {s t : State}

theorem cntStreams_of_events {evs : List CntEvent} (h : t.cntOut = s.cntOut ++ evs.map .ev) :
    t.cntEv = s.cntEv ++ evs ∧ t.cntTx = s.cntTx ∧ t.cntRet = s.cntRet := by
  simp [State.cntEv, State.cntTx, State.cntRet, h, List.filterMap_append, List.filterMap_map]

theorem genStreams_of_events {evs : List GenEvent} (h : t.genOut = s.genOut ++ evs.map .ev) :
    t.genEv = s.genEv ++ evs ∧ t.genTx = s.genTx ∧ t.genRet = s.genRet := by
  simp [State.genEv, State.genTx, State.genRet, h, List.filterMap_append, List.filterMap_map]

theorem vamStreams_of_events {evs : List VamEvent} (h : t.vamOut = s.vamOut ++ evs.map .ev) :
    t.vamEv = s.vamEv ++ evs ∧ t.vamRet = s.vamRet := by
  simp [State.vamEv, State.vamRet, h, List.filterMap_append, List.filterMap_map]

/-- `GEN.MEMLD` puts out one event and the byte `0x3F`, and no status. -/
theorem genStreams_of_memld {slot : BitVec 3}
    (h : t.genOut = s.genOut ++ [.ev (.memoryLoaded slot), .tx 0x3F#8]) :
    t.genEv = s.genEv ++ [.memoryLoaded slot] ∧ t.genTx = s.genTx ++ [0x3F#8] ∧ t.genRet = s.genRet := by
  simp [State.genEv, State.genTx, State.genRet, h, List.filterMap_append]

/-- Events of the counter are counted, and no byte is. -/
theorem counts_of_cntEvents {r : CntRegs} {evs : List CntEvent}
    (same : t = { s with cnt := r, cntOut := s.cntOut ++ evs.map .ev }) :
    sentCount t = sentCount s ∧ eventCount t = eventCount s + evs.length := by
  obtain ⟨emitted, sent, -⟩ := cntStreams_of_events (s := s) (congrArg State.cntOut same)
  have gen : t.genEv = s.genEv ∧ t.genTx = s.genTx := by rw [same]; exact ⟨rfl, rfl⟩
  have vam : t.vamEv = s.vamEv := by rw [same]; rfl
  refine ⟨by simp only [sentCount, sent, gen], ?_⟩
  simp only [eventCount, emitted, gen, vam, List.length_append]
  omega

/-- Events of the generator are counted, and no byte is. -/
theorem counts_of_genEvents {r : GenRegs} {evs : List GenEvent}
    (same : t = { s with gen := r, genOut := s.genOut ++ evs.map .ev }) :
    sentCount t = sentCount s ∧ eventCount t = eventCount s + evs.length := by
  obtain ⟨emitted, sent, -⟩ := genStreams_of_events (s := s) (congrArg State.genOut same)
  have cnt : t.cntEv = s.cntEv ∧ t.cntTx = s.cntTx := by rw [same]; exact ⟨rfl, rfl⟩
  have vam : t.vamEv = s.vamEv := by rw [same]; rfl
  refine ⟨by simp only [sentCount, sent, cnt], ?_⟩
  simp only [eventCount, emitted, cnt, vam, List.length_append]
  omega

/-- Events of the VAmeter are counted, and no byte is. -/
theorem counts_of_vamEvents {r : VamRegs} {evs : List VamEvent}
    (same : t = { s with vam := r, vamOut := s.vamOut ++ evs.map .ev }) :
    sentCount t = sentCount s ∧ eventCount t = eventCount s + evs.length := by
  obtain ⟨emitted, -⟩ := vamStreams_of_events (s := s) (congrArg State.vamOut same)
  have cnt : t.cntEv = s.cntEv ∧ t.cntTx = s.cntTx := by rw [same]; exact ⟨rfl, rfl⟩
  have gen : t.genEv = s.genEv ∧ t.genTx = s.genTx := by rw [same]; exact ⟨rfl, rfl⟩
  refine ⟨by simp only [sentCount, cnt, gen], ?_⟩
  simp only [eventCount, emitted, cnt, gen, List.length_append]
  omega

/-- The one event of `GEN.MEMLD` is counted. -/
theorem eventCount_of_memld {slot : BitVec 3}
    (same : t = { s with genOut := s.genOut ++ [.ev (.memoryLoaded slot), .tx 0x3F#8] }) :
    eventCount t = eventCount s + 1 := by
  obtain ⟨emitted, -⟩ := genStreams_of_memld (s := s) (congrArg State.genOut same)
  have cnt : t.cntEv = s.cntEv := by rw [same]; rfl
  have vam : t.vamEv = s.vamEv := by rw [same]; rfl
  simp only [eventCount, emitted, cnt, vam, List.length_append, List.length_singleton]
  omega

/-- A command or a host operation emits no event. -/
theorem eventCount_of_not_rx (hkind : i.kind ≠ .rx) (h : exec i s = .next t) : eventCount t = eventCount s := by
  cases htx : i.kind with
  | rx => exact absurd htx hkind
  | tx =>
    obtain ⟨t', ht', -, hcnt, hgen, hvam, -⟩ := commandsTouchNoRegister i s htx
    cases h.symm.trans ht'
    simp only [eventCount, State.vamEv, hcnt, hgen, hvam]
  | host =>
    cases i with
    | vamCalLoad src =>
      simp only [exec, execVamCalLoad] at h
      split at h
      · cases h; simp [eventCount]
      · split at h <;> cases h <;> simp [eventCount]
    | vamCalUnload => cases h; simp [eventCount]
    | reset u => cases h; simp [eventCount]
    | _ => cases htx

/-- A receive operation sends nothing and emits at most one event or the two of `ReportsThenUnknown`, or it is
`GEN.MEMLD`. -/
theorem exec_received_counts (hkind : i.kind = .rx) (h : exec i s = .next t) :
    (sentCount t = sentCount s ∧
      (eventCount t ≤ eventCount s + 1 ∨
        eventCount t = eventCount s + 2 ∧
          ∃ evs : List VamEvent, ReportsThenUnknown i s evs ∧ t.vamOut = s.vamOut ++ evs.map .ev)) ∨
    (eventCount t = eventCount s + 1 ∧
      ∃ slot, i = .genMemld slot ∧ t = { s with genOut := s.genOut ++ [.ev (.memoryLoaded slot), .tx 0x3F#8] }) := by
  cases hunit : i.unit with
  | cnt =>
    obtain ⟨r, evs, same, atMostOne⟩ := exec_cnt_received hkind hunit h
    obtain ⟨unsent, counted⟩ := counts_of_cntEvents same
    exact .inl ⟨unsent, .inl (by omega)⟩
  | gen =>
    obtain ⟨slot, hmemld, same⟩ | ⟨r, evs, same, atMostOne⟩ := exec_gen_received hkind hunit h
    · exact .inr ⟨eventCount_of_memld same, slot, hmemld, same⟩
    · obtain ⟨unsent, counted⟩ := counts_of_genEvents same
      exact .inl ⟨unsent, .inl (by omega)⟩
  | vam =>
    obtain ⟨r, evs, same, few⟩ := exec_vam_received hkind hunit h
    obtain ⟨unsent, counted⟩ := counts_of_vamEvents same
    obtain atMostOne | reports := few
    · exact .inl ⟨unsent, .inl (by omega)⟩
    · have two : evs.length = 2 := length_of_reportsThenUnknown reports
      exact .inl ⟨unsent, .inr ⟨by omega, evs, reports, congrArg State.vamOut same⟩⟩

end Sys2Proof.Machine
end

section
/-! The obligations about what a received byte and one operation can put out (60_exceptions R291, R300). -/

namespace Sys2Proof.Machine

/-- Settles O42: the byte selects a receive operation of its unit, and what that can do is `exec_cnt_received`,
`exec_gen_received` or `exec_vam_received`. -/
theorem instrumentIsConfined : Obligations.InstrumentIsConfined := by
  unfold Obligations.InstrumentIsConfined
  intro u b s
  obtain ⟨t, ht, -⟩ := inputStep_completes (.rx u b) s
  obtain ⟨-, hkind, hunit⟩ := decodeRx_wf_kind_unit s.seq u b
  refine ⟨t, ht, ?_⟩
  cases u with
  | cnt =>
    obtain ⟨r, evs, same, -⟩ := exec_cnt_received hkind hunit ht
    obtain ⟨-, sent, returned⟩ := cntStreams_of_events (s := s) (congrArg State.cntOut same)
    subst same
    exact ⟨rfl, absurd rfl, fun _ => ⟨rfl, rfl⟩, fun _ => ⟨rfl, rfl⟩, sent, .inl rfl, returned, rfl, rfl⟩
  | gen =>
    obtain ⟨slot, -, same⟩ | ⟨r, evs, same, -⟩ := exec_gen_received hkind hunit ht
    · obtain ⟨-, sent, returned⟩ := genStreams_of_memld (s := s) (congrArg State.genOut same)
      subst same
      exact ⟨rfl, fun _ => ⟨rfl, rfl⟩, absurd rfl, fun _ => ⟨rfl, rfl⟩, rfl, .inr sent, rfl, returned, rfl⟩
    · obtain ⟨-, sent, returned⟩ := genStreams_of_events (s := s) (congrArg State.genOut same)
      subst same
      exact ⟨rfl, fun _ => ⟨rfl, rfl⟩, absurd rfl, fun _ => ⟨rfl, rfl⟩, rfl, .inl sent, rfl, returned, rfl⟩
  | vam =>
    have calibration := calibrationOf_of_received hkind hunit ht
    obtain ⟨r, evs, same, -⟩ := exec_vam_received hkind hunit ht
    obtain ⟨-, returned⟩ := vamStreams_of_events (s := s) (congrArg State.vamOut same)
    subst same
    exact ⟨calibration, fun _ => ⟨rfl, rfl⟩, fun _ => ⟨rfl, rfl⟩, absurd rfl, rfl, .inl rfl, rfl, rfl, returned⟩

/-- Settles O43: a command and a host operation emit nothing, and a receive operation is one of those that
`exec_received_counts` names. -/
theorem atMostTwoEventsPerStep : Obligations.AtMostTwoEventsPerStep := by
  unfold Obligations.AtMostTwoEventsPerStep
  intro i s t h
  by_cases hkind : i.kind = .rx
  case neg =>
    have quiet := eventCount_of_not_rx hkind h
    exact ⟨by omega, fun two => by omega, fun emits => by omega⟩
  case pos =>
    obtain ⟨unsent, one | ⟨two, evs, reports, emitted⟩⟩ | ⟨one, memld⟩ := exec_received_counts hkind h
    · exact ⟨by omega, fun two => by omega, fun _ sent => by omega⟩
    · obtain ⟨b, e, hctrl, unknown, sampling, nonempty, report, rfl⟩ := reports
      exact ⟨two.le, fun _ => ⟨b, e, hctrl, unknown, sampling, nonempty, report, emitted⟩, fun _ sent => by omega⟩
    · exact ⟨by omega, fun two => by omega, fun _ _ => memld⟩

end Sys2Proof.Machine
end

section
/-! What `Reset(U)` does (70_reset_and_hazards R320): it completes with `State.resetUnit`, and the calibration registers it
leaves hold the default of 10_state R47. -/

namespace Sys2Proof.Machine

/-- A reset completes in every state (70_reset_and_hazards R320). -/
theorem exec_reset (u : UnitId) (s : State) : exec (.reset u) s = .next (s.resetUnit u) := rfl

/-- Every voltage factor after `Reset(VAM)` is the default 1.0, stored as 1000 (10_state R47). -/
theorem vamAfterReset_calV (n : Nat) (k : Fin 8) : (vamAfterReset n).calV[k] = 1000 :=
  Vector.getElem_replicate k.isLt

/-- Every current factor after `Reset(VAM)` is the default 1.0, stored as 1000 (10_state R47). -/
theorem vamAfterReset_calI (n : Nat) (k : Fin 4) : (vamAfterReset n).calI[k] = 1000 :=
  Vector.getElem_replicate k.isLt

end Sys2Proof.Machine
end

section
/-! The obligation about the reset of one unit (70_reset_and_hazards R320, 10_state R47). -/

namespace Sys2Proof.Machine

/-- Settles O39, unit by unit: `exec_reset` gives the next state, and the registers left free are those that
`State.resetUnit` leaves there. -/
theorem resetOfOneUnit : Obligations.ResetOfOneUnit := by
  unfold Obligations.ResetOfOneUnit
  intro s
  refine ⟨?cnt, ?gen, ?vam⟩
  case cnt =>
    exact ⟨(cntAfterReset s.resets.cnt).range, (s.resetUnit .cnt).resets, exec_reset .cnt s⟩
  case gen =>
    exact ⟨(genAfterReset s.resets.gen).rxbuf, (s.resetUnit .gen).resets, exec_reset .gen s⟩
  case vam =>
    exact ⟨(vamAfterReset s.resets.vam).sampleLow, (s.resetUnit .vam).resets, (vamAfterReset s.resets.vam).calV,
      (vamAfterReset s.resets.vam).calI, exec_reset .vam s, vamAfterReset_calV s.resets.vam,
      vamAfterReset_calI s.resets.vam⟩

end Sys2Proof.Machine
end
